-- ==== Sys2Proof/Word.lean ====
section
/-! DEFINITION. The words software sees: bytes of the exchange window and 32-bit registers. -/

namespace Sys2Proof

/-- One byte of the exchange window (10_the_exchange R161). -/
abbrev Byte := BitVec 8

/-- One 32-bit register of the register window (10_the_exchange 10.6). -/
abbrev Word := BitVec 32

end Sys2Proof
end

