-- ==== Sys2Proof/Syntax.lean ====
section
/-! DEFINITION. The commands of the part, one constructor for each row of spec/opcode_table.json. The table gives no
operands; those here are what the spec's text says the event carries. The levels of load present and of the spur heads at
any other command stand in `State.levels` (log 1). Carousels are numbered 1 to 12. -/

namespace Sys2Proof

/-- A command: a host access, a docket taking, a machinery event or a timer event, each whole and indivisible
(95_what_each_step_holds). -/
inductive Instr where
  /-- Power is applied (R174). -/
  | powerOnReset
  /-- HALT alone written to CONTROL (R173). -/
  | halt
  /-- RESUME alone written to CONTROL (R173). -/
  | resume
  /-- RESET written to CONTROL (R174). -/
  | reset
  /-- A write to EVENTS; a bit written 1 clears (R169). -/
  | eventsClear (mask : Word)
  /-- A read of RETURN (R168). -/
  | returnRead
  /-- A write to the register window at a byte offset (R169). -/
  | registerWrite (offset : Nat) (value : Word)
  /-- A host write to a docket frame (R163). -/
  | hostFrameWrite (offset : Nat) (bytes : List Byte)
  /-- A one-byte write of RECALL to a frame's hand byte (R165). -/
  | recallRequest (frame : Nat)
  /-- A host write where the host has no right to write (R164). -/
  | trespass (offset : Nat) (bytes : List Byte)
  /-- A one-byte write of ARMED to a notice record's state byte (R170). -/
  | reArm (record : Nat)
  /-- The dispatcher takes a CONFIGURE docket (R172). -/
  | configure
  /-- The dispatcher takes a START docket (R172). -/
  | start
  /-- The dispatcher takes an ARTICLE docket (R2). -/
  | article
  /-- The dispatcher takes a STOCK LOAD docket (R18). -/
  | stockLoad
  /-- The dispatcher takes a STORE docket (R66). -/
  | store
  /-- The dispatcher takes an ORDER docket (R102). -/
  | order
  /-- The dispatcher takes a LANE CLEAR docket (R105). -/
  | laneClear
  /-- The dispatcher takes a GLANCE docket (R133). -/
  | glance
  /-- The dispatcher takes a RECOUNT docket (R133). -/
  | recount
  /-- The dispatcher takes a CADENCE docket (R146). -/
  | cadence
  /-- The dispatcher takes a SERVICE ENTER_MAINTENANCE docket (R153). -/
  | enterMaintenance
  /-- The dispatcher takes a SERVICE SET_SCORE docket (R154). -/
  | setScore
  /-- The dispatcher takes a SERVICE LEAVE_MAINTENANCE docket (R154). -/
  | leaveMaintenance
  /-- The dispatcher takes a SERVICE RESTORE docket (R155). -/
  | restore
  /-- The dispatcher takes a BAY READ docket (R19). -/
  | bayRead
  /-- The dispatcher takes a STOCK QUERY docket (R20). -/
  | stockQuery
  /-- The dispatcher takes an ORDER QUERY docket (R117). -/
  | orderQuery
  /-- A carrier-index pulse, with the level of the home sensor at the pulse (R24, R25). -/
  | carrierIndex (c : Nat) (home : Bool)
  /-- The safety gate opens (R158). -/
  | gateOpen (c : Nat)
  /-- The safety gate closes, with the level of the load-present line at that moment (R158, R159). -/
  | gateClose (c : Nat) (load : Bool)
  /-- The emergency stop is asserted (R158). -/
  | estopAssert
  /-- The emergency stop is released, with the load-present levels of carousels 1 to 12 (R158, R159). -/
  | estopRelease (loads : List Bool)
  /-- No index pulse came within 4.0 s of a gate lock (R159). -/
  | gateStopTimeout (c : Nat)
  /-- The gripper answers GOT, with the load-present level (R44). -/
  | gripperGot (c : Nat) (load : Bool)
  /-- The gripper answers EMPTY, with the load-present level (R44). -/
  | gripperEmpty (c : Nat) (load : Bool)
  /-- The gripper answers DONE, with the load-present level (R44). -/
  | gripperDone (c : Nat) (load : Bool)
  /-- The gripper answers FAULT, with the load-present level (R44). -/
  | gripperFault (c : Nat) (load : Bool)
  /-- The port scanner reports an article and a date code (R45). -/
  | scanReport (c article year week : Nat)
  /-- The port scanner reports NO_READ (R45). -/
  | scanNoRead (c : Nat)
  /-- A gauge conversion completes with a code (R54). -/
  | conversionComplete (c code : Nat)
  /-- Rising edge of infeed present (R68). -/
  | infeedPresentRise (c : Nat)
  /-- Falling edge of infeed present (R70). -/
  | infeedPresentFall (c : Nat)
  /-- Rising edge of a spur-head line (R120). -/
  | spurHeadRise (c : Nat)
  /-- Rising edge of merge-point clear, with the levels of the twelve spur-head lines (R121). -/
  | mergePointClearRise (heads : List Bool)
  /-- The sorter scanner reports an article and a date code (R125). -/
  | sorterScan (article year week : Nat)
  /-- The sorter scanner reports NO_READ (R126). -/
  | sorterNoRead
  /-- The idle timer reaches 30.0 s (R31). -/
  | idleTimerExpiry (c : Nat)
  /-- The brake release reaches 2.0 s (R32). -/
  | brakeReleaseEnd (c : Nat)
  /-- The watchdog of a move or home pass reaches its limit (R28, R29). -/
  | moveWatchdogExpiry (c : Nat)
  /-- The action limit reaches 20.0 s, with the load-present level (R43). -/
  | actionLimitExpiry (c : Nat) (load : Bool)
  /-- The scan limit reaches 3.0 s (R45). -/
  | scanLimitExpiry (c : Nat)
  /-- The gauge settle timer reaches 0.5 s (R54). -/
  | settleTimerEnd (c : Nat)
  /-- The completion limit reaches 1.0 s (R54). -/
  | completionLimitExpiry (c : Nat)
  /-- The arrival timer reaches the arrival time (R71). -/
  | arrivalTimerExpiry (c : Nat)
  /-- The pick timer of an order slot reaches the pick time (R108). -/
  | pickTimerExpiry (slot : Nat)
  /-- The merge guard reaches 3.0 s, with the levels of the twelve spur-head lines (R121). -/
  | mergeGuardExpiry (heads : List Bool)
  /-- The transit timer of the tracking record at a position, 0 the head, reaches 90.0 s (R124). -/
  | transitTimerExpiry (position : Nat)
  /-- A carousel's cadence timer reaches its interval (R147). -/
  | cadenceTimerExpiry (c : Nat)
  /-- A whole second has passed (R171). -/
  | uptimeTick
  /-- The Reservation Engine makes the next single re-seek of a withdrawn-mark batch (R93). -/
  | reseekWithdrawn
  /-- The dispatcher takes a frame that fails check 1 or 2 of R166. -/
  | refusedKind
  /-- Falling edge of merge-point clear (R121). -/
  | mergePointClearFall
  deriving DecidableEq, Repr

end Sys2Proof
end

