-- ==== Sys2Proof/Config.lean ====
section
/-! DEFINITION. Constants the spec fixes for the part, and the one free value, the admission sequence past the top of its
range (log 24). Times are in hundredths of a second. -/

namespace Sys2Proof.Config

/-- Number of carousels the part has controllers for (R4, R21). -/
def carousels : Nat := 12
/-- Carriers of one carousel (00_scope 1.1). -/
def carriers : Nat := 20
/-- Bays of one carousel (R4). -/
def bays : Nat := 40
/-- Entries a bay may hold (R4). -/
def bayEntries : Nat := 12
/-- Recorded height a bay may hold, in mm (R4). -/
def bayHeight : Nat := 1600
/-- Recorded load a carrier may hold, in 0.1 kg (R4, R7). -/
def carrierLoad : Nat := 5000
/-- Entries a rack may hold (R8). -/
def rackEntries : Nat := 4
/-- Keys the batch map may hold (R14). -/
def mapKeys : Nat := 4096
/-- Largest article id (R1). -/
def articleIds : Nat := 2047
/-- Docket frames (R161). -/
def frames : Nat := 512
/-- Bytes of one frame (R161). -/
def frameBytes : Nat := 128
/-- First offset of the notice records (R161). -/
def noticeBase : Nat := 0x10000
/-- First offset of the status page (R161). -/
def statusBase : Nat := 0x10200
/-- First offset above the exchange window (R161). -/
def windowEnd : Nat := 0x11000
/-- Order slots (R100). -/
def orderSlots : Nat := 64
/-- Largest admission sequence (R100). -/
def seqTop : Nat := 4294967295
/-- The admission sequence that follows the largest one, at its `n`-th use: the spec states none, nothing constrains it
(log 24). -/
opaque seqPastTop : Nat → BitVec 32
/-- Outbound lanes (R103). -/
def lanes : Nat := 16
/-- Audit record slots (R132). -/
def auditSlots : Nat := 8
/-- Actions one bay of a dig plan may have (R59). -/
def bayActions : Nat := 16
/-- Demands one lift visit may hold (R35). -/
def visitDemands : Nat := 40
/-- Audit visits that may wait on one carousel (R36). -/
def waitingAudits : Nat := 3
/-- Records a spur may hold (R119). -/
def spurRecords : Nat := 2
/-- Records the tracking list may hold (R123). -/
def trackingRecords : Nat := 48
/-- Chute count at which the belt stops (R126). -/
def chuteFull : Nat := 24
/-- Tracking records the sorter compares (R125). -/
def sorterWindow : Nat := 4
/-- Wait above which a visit counts as class 1, in seconds (R39). -/
def agingSeconds : Nat := 300

/-- Idle timer limit, 30.0 s (R31). -/
def idleLimit : Nat := 3000
/-- Brake release, 2.0 s (R32). -/
def brakeLimit : Nat := 200
/-- Action limit, 20.0 s (R43). -/
def actionLimit : Nat := 2000
/-- Scan limit, 3.0 s (R45). -/
def scanLimit : Nat := 300
/-- Gauge settle, 0.5 s (R54). -/
def settleLimit : Nat := 50
/-- Gauge completion limit, 1.0 s (R54). -/
def completionLimit : Nat := 100
/-- Stop of a gated move without an index pulse, 4.0 s (R159). -/
def gateStopLimit : Nat := 400
/-- Merge guard, 3.0 s (R121). -/
def guardLimit : Nat := 300
/-- Transit timer, 90.0 s (R123). -/
def transitLimit : Nat := 9000
/-- Watchdog of a seek and of a revolution from rest, 124.5 s (R29). -/
def homeLimit : Nat := 12450
/-- Watchdog of a revolution that follows a seek, 123.0 s (R29). -/
def homeLimitRolling : Nat := 12300
/-- The tick of an idle step, 0.05 s: every limit above is a whole number of ticks (DESIGN CHOICE, log 3). -/
def tick : Nat := 5

/-- Charge of one fault (R149). -/
def faultCharge : Nat := 16
/-- Largest fault score (R148). -/
def scoreMax : Nat := 255
/-- Score a sidelining sets (R149). -/
def sidelinedScore : Nat := 128
/-- Recovery passes of one RESTORE (R156). -/
def recoveryPasses : Nat := 8

/-- Hand byte values (11_docket_reference 11.1). -/
def handOpen : Byte := 0x00
def handPosted : Byte := 0xA5
def handRecall : Byte := 0x3C

/-- IDENT: part code 0x2440, revision 1 (10_the_exchange 10.6). -/
def ident : Word := 0x00012440

end Sys2Proof.Config
end

