-- ==== Sys2Proof/Machine/State.lean ====
section
/-! DEFINITION. The whole state of the part as plain data, block by block (00_scope 2.1), and its value after a power-on
reset. Per-carousel tables are lists of twelve, carousel `c` at index `c - 1`. Times are in hundredths of a second. -/

namespace Sys2Proof.Machine

/-! ### Names -/

/-- Part mode (R172). -/
inductive PartMode where
  | setup | running | halting | halted
  deriving DecidableEq, Repr, Inhabited

/-- Reset cause on the status page (R171). -/
inductive ResetCause where
  | power | command
  deriving DecidableEq, Repr, Inhabited

/-- Carousel state, in the order of the state table of R22. -/
inductive CarState where
  | offline | homing | idle | parked | visiting | locked | sidelined | recovering | maintenance
  deriving DecidableEq, Repr, Inhabited

/-- Sub-phase of a visit (R21). -/
inductive SubPhase where
  | moving | atPort
  deriving DecidableEq, Repr, Inhabited

/-- Direction of the drive (R24). -/
inductive Dir where
  | forward | reverse
  deriving DecidableEq, Repr, Inhabited

/-- Drive mode (R27). -/
inductive DriveMode where
  | full | creep
  deriving DecidableEq, Repr, Inhabited

/-- Why the drive cannot move: the two lock causes (R148). -/
inductive LockCause where
  | gate | estop
  deriving DecidableEq, Repr, Inhabited

/-- Visit kinds, in the order of R183's coding. -/
inductive VisitKind where
  | lift | placement | glance | recount | tidy
  deriving DecidableEq, Repr, Inhabited

/-- The five machinery faults (09_carousel_health 9.2). -/
inductive FaultKind where
  | moveTimeout | positionSlip | gripFault | scanTimeout | gaugeFault
  deriving DecidableEq, Repr, Inhabited

/-- Phase a fault arose in, in the order of R183's coding. -/
inductive FaultPhase where
  | move | lift | shift | back | place | intake | scan | gauge
  deriving DecidableEq, Repr, Inhabited

/-- SUSPECT reasons (R6). -/
inductive Suspect where
  | variance | identity
  deriving DecidableEq, Repr, Inhabited

/-- Gauge outcomes (R55). -/
inductive Outcome55 where
  | match_ | heightVar | massVar | bothVar
  deriving DecidableEq, Repr, Inhabited

/-! ### Stock Table -/

/-- A date code (R3). -/
structure DateCode where
  year : Nat
  week : Nat
  deriving DecidableEq, Repr, Inhabited

/-- What a tyre's label says, and a batch key: article and date code (R3, R14). -/
structure Label where
  article : Nat
  date : DateCode
  deriving DecidableEq, Repr, Inhabited

/-- A reservation mark: order slot 0 to 63 and line 1 to 8 (R3). -/
structure Mark where
  slot : Nat
  line : Nat
  deriving DecidableEq, Repr, Inhabited

/-- A tyre entry (R3). `reservedAt` is the depth its mark was set at, the depth at reservation that a lift demand carries
(R34, R35, R87, log 43); 0 while it carries no mark. -/
structure Entry where
  label : Label
  mark : Option Mark
  reservedAt : Nat
  deriving DecidableEq, Repr, Inhabited

/-- An article record (R1). -/
structure Article where
  defined : Bool
  pitch : Nat
  mass : Nat
  blocked : Bool
  deriving DecidableEq, Repr, Inhabited

/-- A bay record (R4). -/
structure Bay where
  stack : List Entry
  height : Nat
  load : Nat
  held : Option Nat
  suspect : Option Suspect
  deriving DecidableEq, Repr, Inhabited

/-- A rack entry with the bay it was last taken from (R8). -/
structure RackEntry where
  entry : Entry
  origin : Nat
  deriving DecidableEq, Repr, Inhabited

/-- Origin of a gripper entry, with its origin bay (R9). -/
inductive Origin where
  | bay (b : Nat)
  | rack (b : Nat)
  | infeed
  deriving DecidableEq, Repr, Inhabited

/-- A gripper holding (R9). -/
structure Holding where
  entry : Entry
  origin : Origin
  deriving DecidableEq, Repr, Inhabited

/-- The stock of one carousel: 40 bays, the rack top first, the gripper (R4, R8, R9). -/
structure CarStock where
  bays : List Bay
  rack : List RackEntry
  gripper : Option Holding
  deriving DecidableEq, Repr, Inhabited

/-- A key of the batch map (R14). -/
structure Batch where
  key : Label
  onHand : Nat
  reserved : Nat
  deriving DecidableEq, Repr, Inhabited

/-- The Stock Table: defined articles by rising id, the stock of each carousel, the batch map by rising key. -/
structure Stb where
  articles : List (Nat × Article)
  stock : List CarStock
  batch : List Batch
  deriving DecidableEq, Repr, Inhabited

/-! ### Carousel Controllers -/

/-- Where a gripper command sets a tyre down (03_work_at_the_port 3.1). -/
inductive Dest where
  | bay (b : Nat)
  | rack
  | spur
  | infeed
  deriving DecidableEq, Repr, Inhabited

/-- Gripper commands (03_work_at_the_port 3.1). -/
inductive GripCmd where
  | gripStack (b : Nat)
  | gripRack
  | gripInfeed
  | setDown (d : Dest)
  deriving DecidableEq, Repr, Inhabited

/-- Unrecorded-grip place (R43). -/
inductive GripPlace where
  | bay (b : Nat)
  | rack
  deriving DecidableEq, Repr, Inhabited

/-- Planned destination of a SHIFT (R48). -/
inductive ShiftDest where
  | sister | rack
  deriving DecidableEq, Repr, Inhabited

/-- A lift demand (R34): `depth` is the depth R106 names in sending it, `reservedAt` the depth at reservation of R34,
R35 and R87 (log 43). -/
structure Demand where
  slot : Nat
  line : Nat
  bay : Nat
  depth : Nat
  reservedAt : Nat
  deriving DecidableEq, Repr, Inhabited

/-- Port actions (R46 to R50, R54, R140, R141). -/
inductive Action where
  /-- LIFT of the demand's tyre, with its planned depth in the bay (R61) and whether it is voided. -/
  | lift (mark : Mark) (bay : Nat) (depth : Nat) (void : Bool)
  | shift (bay : Nat) (dest : ShiftDest)
  /-- BACK of the rack's top tyre, planned for this bay. -/
  | back (bay : Nat)
  | place (dest : Dest)
  | intake
  | gauge (bay : Nat)
  /-- Pass 1 of a recount of this bay. -/
  | recountTake (bay : Nat)
  /-- Pass 2 of a recount of this bay, or a return action of a tidy visit. -/
  | recountReturn (bay : Nat)
  deriving DecidableEq, Repr, Inhabited

/-- Recount stop causes, in the order of R180's coding after none. -/
inductive StopCause where
  | noRoom | unreadable | unknownArticle
  deriving DecidableEq, Repr, Inhabited

/-- Why a SET_DOWN is made. -/
inductive SetPurpose where
  /-- The action's own set-down. -/
  | normal
  /-- The tyre of an identity slip goes back (R51 step 5). -/
  | slip
  /-- A SHIFT that lost both destinations sets its tyre back (R48). -/
  | giveUp
  /-- A recount's pass 1 sets the tyre it has read on the sister bay (R140). -/
  | found (label : Label)
  /-- A stopped recount sets its tyre back (R140). -/
  | stop (cause : StopCause)
  deriving DecidableEq, Repr, Inhabited

/-- How far the current action has got (R43 to R50). -/
inductive Phase where
  /-- Not begun: between actions, or moving to the carrier it needs. -/
  | ready
  | gripping
  | scanning
  /-- A LIFT waits for spur room; whether a spur-room event was taken during a lock (R47). -/
  | waitRoom (seen : Bool)
  | setting (why : SetPurpose)
  /-- A PLACE waits for the infeed to clear (R50). -/
  | waitInfeed
  | gauging
  deriving DecidableEq, Repr, Inhabited

/-- Scan state (R43). -/
inductive Scan where
  | none | first | retry
  deriving DecidableEq, Repr, Inhabited

/-- Gauge state with its running timer, and the codes of the conversions so far (R43, R54). -/
inductive Gauge where
  | idle
  | settling (elapsed : Nat)
  | converting (elapsed : Nat) (codes : List Nat)
  deriving DecidableEq, Repr, Inhabited

/-- A gripper command kept back by a lock: withdrawn after it was issued, or not issued yet (R159, log 13). -/
structure HeldCmd where
  cmd : GripCmd
  issued : Bool
  deriving DecidableEq, Repr, Inhabited

/-- The port record (R43). -/
structure Port where
  cmd : Option GripCmd
  held : Option HeldCmd
  actionLimit : Option Nat
  scan : Scan
  scanLimit : Option Nat
  gauge : Gauge
  unrecorded : Option GripPlace
  phase : Phase
  deriving DecidableEq, Repr, Inhabited

/-- A visit record (R34). Its class is that of its kind; it is WAITING in `Car.visits` and IN_PROGRESS in
`Car.current`. `id` is the model's own identity (log 9); `actions` are the current action and those after it, `index`
the index of the current one (R43); `taken` the bays its lifts and shifts have taken from (R61). -/
structure Visit where
  id : Nat
  kind : VisitKind
  target : Option Nat
  created : Nat
  demands : List Demand
  audit : Option Nat
  bays : List Nat
  actions : List Action
  index : Nat
  taken : List Nat
  deriving DecidableEq, Repr, Inhabited

/-- Drive outputs: direction and mode (R24, R27). -/
structure Drive where
  dir : Dir
  mode : DriveMode
  deriving DecidableEq, Repr, Inhabited

/-- Move watchdog (R28). -/
structure Watchdog where
  elapsed : Nat
  limit : Nat
  deriving DecidableEq, Repr, Inhabited

/-- A home pass (R29): begun or held back by a lock cause; in its seek or its revolution; pulses taken in that part. -/
structure Pass where
  begun : Bool
  seek : Bool
  pulses : Nat
  deriving DecidableEq, Repr, Inhabited

/-- SERVICE sub-requests (R181). -/
inductive ServiceKind where
  | enterMaintenance | setScore | leaveMaintenance | restore
  deriving DecidableEq, Repr, Inhabited

/-- Pending service (R148). -/
structure Service where
  frame : Nat
  kind : ServiceKind
  deriving DecidableEq, Repr, Inhabited

/-- How far a RESTORE has got (R155, R156). -/
inductive Stage where
  | waiting | tidy | recovery
  deriving DecidableEq, Repr, Inhabited

/-- Recount return: bay b and the tyres of b still on its sister (R141). -/
structure RecountReturn where
  bay : Nat
  count : Nat
  deriving DecidableEq, Repr, Inhabited

/-- Carousel record, port record and health record of one Carousel Controller (R21, R43, R148). -/
structure Car where
  state : CarState
  interrupted : Option CarState
  sub : Option SubPhase
  offset : Option Nat
  drive : Option Drive
  powered : Bool
  brakeHeld : Bool
  moveTarget : Option Nat
  pass : Option Pass
  visits : List Visit
  current : Option Visit
  idle : Option Nat
  brake : Option Nat
  provisional : Option Nat
  watchdog : Option Watchdog
  gateStop : Option Nat
  port : Port
  score : Nat
  warnArmed : Bool
  gateCause : Bool
  estopCause : Bool
  service : Option Service
  passCount : Nat
  stage : Option Stage
  recountReturn : Option RecountReturn
  deriving DecidableEq, Repr, Inhabited

/-! ### Put-away Unit -/

/-- Results of a store (R79). -/
inductive StoreResult where
  | done | noRoom | mapFull | overrun | infeedTimeout | fault | carouselLost | recalled
  deriving DecidableEq, Repr, Inhabited

/-- Store states (R65). -/
inductive StoreState where
  | waitingArrival
  | placing
  | ending (result : StoreResult)
  deriving DecidableEq, Repr, Inhabited

/-- A store record (R65). -/
structure Store where
  label : Label
  declared : Nat
  stored : Nat
  refused : Nat
  variance : Nat
  lastBay : Option Nat
  overrun : Bool
  state : StoreState
  frame : Nat
  deriving DecidableEq, Repr, Inhabited

/-- The Put-away Unit's records of one carousel (R65, R67, R71, R72). -/
structure Pau where
  store : Option Store
  arrival : Option Nat
  occupied : Bool
  returnPending : Bool
  requestHeld : Bool
  deriving DecidableEq, Repr, Inhabited

/-! ### Order Table -/

/-- Set rules (R85, R86). -/
inductive SetRule where
  | any | oneBatch
  | closeBatch (span : Nat)
  deriving DecidableEq, Repr, Inhabited

/-- A line record (R100). -/
structure Line where
  article : Nat
  quantity : Nat
  rule : SetRule
  reserved : Nat
  inTransit : Nat
  delivered : Nat
  unfilled : Nat
  lost : Nat
  held : List Nat
  deriving DecidableEq, Repr, Inhabited

/-- Order states (06_orders_and_lanes 6.3). -/
inductive OrderState where
  | laneWait | picking | closing | cancelling
  deriving DecidableEq, Repr, Inhabited

/-- Run state of a pick timer (R100). -/
inductive TimerRun where
  | stopped | running | paused
  deriving DecidableEq, Repr, Inhabited

/-- An order record (R100). -/
structure Order where
  number : Nat
  priority : Nat
  partialOk : Bool
  seq : Nat
  state : OrderState
  lane : Option Nat
  lines : List Line
  elapsed : Nat
  run : TimerRun
  timedOut : Bool
  frame : Nat
  deriving DecidableEq, Repr, Inhabited

/-- Lane states (R103). -/
inductive LaneState where
  | free | filling | complete | disbanded
  deriving DecidableEq, Repr, Inhabited

/-- A lane record (R103). -/
structure Lane where
  state : LaneState
  slot : Option Nat
  number : Nat
  count : Nat
  deriving DecidableEq, Repr, Inhabited

/-- The Order Table: 64 slots, the lane waiting list, the next admission sequence, 1 to 4,294,967,295, and 16 lanes
(R100, R103, R104). -/
structure Odt where
  orders : List (Option Order)
  waiting : List Nat
  nextSeq : Nat
  lanes : List Lane
  deriving DecidableEq, Repr, Inhabited

/-! ### Reservation Engine -/

/-- Causes of a re-seek, in the order R92 lists them. -/
inductive ReseekCause where
  | identity | recount | sidelined | maintenance | lost
  deriving DecidableEq, Repr, Inhabited

/-- A withdrawn mark, with the admission sequence of the order it was withdrawn from: a slot that has passed to another
order no longer answers for it (R93, R101, log 22). -/
structure Withdrawn where
  mark : Mark
  seq : Nat
  deriving DecidableEq, Repr, Inhabited

/-- A batch of withdrawn marks still to be sought (R93): cause, carousel left out (R96), audit record that waits for
the answer (R143), marks still to take in order, and the counts so far. -/
structure ReseekBatch where
  cause : ReseekCause
  leaveOut : Option Nat
  audit : Option Nat
  items : List Withdrawn
  replaced : Nat
  shortened : Nat
  released : Nat
  deriving DecidableEq, Repr, Inhabited

/-! ### Belt Controller -/

/-- A spur record (R119). -/
structure SpurRec where
  slot : Nat
  line : Nat
  label : Label
  lane : Nat
  priority : Nat
  deriving DecidableEq, Repr, Inhabited

/-- A tracking record (R123). -/
structure TrackRec where
  spur : SpurRec
  carousel : Nat
  elapsed : Nat
  deriving DecidableEq, Repr, Inhabited

/-- The belt record, the spurs and the tracking list (R118). -/
structure Blc where
  modeCause : Bool
  estopCause : Bool
  chuteCause : Bool
  spent : Bool
  guard : Option Nat
  guardStayed : Bool
  chute : Nat
  spurs : List (List SpurRec)
  tracking : List TrackRec
  deriving DecidableEq, Repr, Inhabited

/-! ### Audit Unit -/

/-- Outcome of one bay of a GLANCE (R132). -/
inductive BayOutcome where
  | pending
  | done (o : Outcome55)
  | notDone
  deriving DecidableEq, Repr, Inhabited

/-- The audit visit of a record (R132). -/
inductive AuditVisit where
  | none
  | waiting (carrier : Nat)
  | inProgress (carrier : Nat)
  deriving DecidableEq, Repr, Inhabited

/-- Recount phases (R132). -/
inductive RecountPhase where
  | queued | pass1 | pass2 | settling
  deriving DecidableEq, Repr, Inhabited

/-- One item of a difference list (R132). -/
structure Difference where
  key : Label
  recorded : Nat
  found : Nat
  deriving DecidableEq, Repr, Inhabited

/-- An audit record (R132). `gripped`: the first pass 1 grip is issued (R140); `asking`: a request is held (R134);
`pass1Done`: pass 1 ended with full success; `movedAtEnd`: moved count when pass 1 stopped, faulted or ended (R144);
`ended`: the recount visit has ended; `reseek`: the Reservation Engine still has its marks (R143); `code`: the result
decided at a recount's end. -/
structure AuditRec where
  recount : Bool
  carousel : Nat
  acceptance : Nat
  frame : Nat
  whole : Bool
  bays : List Nat
  outcomes : List BayOutcome
  visit : AuditVisit
  asking : Bool
  recallTaken : Bool
  faultSeen : Bool
  carouselLost : Bool
  tooLate : Bool
  phase : RecountPhase
  found : List Label
  moved : Nat
  movedAtEnd : Nat
  stop : Option StopCause
  stopAtStart : Bool
  gripped : Bool
  pass1Done : Bool
  diffs : List Difference
  orderChanged : Bool
  withdrawn : Nat
  replaced : Nat
  shortened : Nat
  reseek : Bool
  ended : Bool
  code : Nat
  deriving DecidableEq, Repr, Inhabited

/-- A cadence record (R146). -/
structure Cadence where
  interval : Nat
  elapsed : Nat
  cursor : Nat
  overruns : Nat
  deriving DecidableEq, Repr, Inhabited

/-- The Audit Unit (R132, R146). -/
structure Aud where
  records : List (Option AuditRec)
  acceptance : Nat
  cadence : List Cadence
  deriving DecidableEq, Repr, Inhabited

/-! ### Exchange Unit -/

/-- Hand state of a frame, with the recall flag of WORK (R162). -/
inductive Hand where
  | host
  | intake
  | work (recalled : Bool)
  deriving DecidableEq, Repr, Inhabited

/-- A notice record (R170): state HELD or ARMED, kind code, missed count, uptime stamp, 24 detail bytes. -/
structure Notice where
  held : Bool
  kind : Nat
  missed : Nat
  stamp : Nat
  details : List Byte
  deriving DecidableEq, Repr, Inhabited

/-- The EVENTS bits the part sets; RETURNED is the return list not being empty (R169). -/
structure Events where
  notice : Bool
  trespass : Bool
  mode : Bool
  estop : Bool
  deriving DecidableEq, Repr, Inhabited

/-- The START in work (R172): its frame, the carousels awaited, one outcome code per carousel (R177). -/
structure StartWork where
  frame : Nat
  awaited : List Nat
  outcomes : List Nat
  deriving DecidableEq, Repr, Inhabited

/-- The Exchange Unit. -/
structure Xu where
  mem : List Host.Cell
  hands : List Hand
  intake : List Nat
  returns : List Nat
  notices : List Notice
  events : Events
  enable : BitVec 5
  mode : PartMode
  cause : ResetCause
  uptime : Nat
  posts : Nat
  trespasses : Nat
  configureTaken : Bool
  start : Option StartWork
  readData : Word
  deriving DecidableEq, Repr, Inhabited

/-- The CONFIGURE values in force (R177). -/
structure Cfg where
  count : Nat
  resolution : Nat
  window : Nat
  verify : Bool
  imbalanceLimit : Nat
  arrivalTime : Nat
  pickTime : Nat
  warning : Nat
  deriving DecidableEq, Repr, Inhabited

/-! ### Lines and outputs -/

/-- Input levels of one carousel's lines (00_scope 2.4). -/
structure CarLines where
  gateOpen : Bool
  load : Bool
  infeed : Bool
  spurHead : Bool
  deriving DecidableEq, Repr, Inhabited

/-- Input levels of the machinery lines (00_scope 2.4). -/
structure Lines where
  cars : List CarLines
  estop : Bool
  mergeClear : Bool
  deriving DecidableEq, Repr, Inhabited

/-- The levels at a coming command of the two lines whose falls no row of the table reports, carousels 1 to 12: load
present and spur head. A carousel past the end of a list keeps its level (log 1). -/
structure Levels where
  loads : List Bool
  heads : List Bool
  deriving DecidableEq, Repr, Inhabited

/-- Output pulses and gripper commands given during a command (00_scope 2.4). Lane 0 is the chute. -/
inductive Out where
  | gripper (c : Nat) (cmd : GripCmd)
  | reject (c : Nat)
  | mergeGate (c : Nat)
  | divert (lane : Nat)
  deriving DecidableEq, Repr, Inhabited

/-- The whole part. `outs` are the pulses of the last command; `agenda` and `skip` are the model's own and empty
between commands (log 10): carousels whose selection pass is still to run in this command, and the carousel and
demands of lift visits that ended in it with an empty plan. `levels` are the line levels at the coming commands, one
entry a command, oldest first; with none left the levels stay as they are (log 1). `free` counts the uses of the free
value `Config.seqPastTop` (log 24). `pending` is the queue of commands, first in first out. -/
structure State where
  xu : Xu
  cfg : Cfg
  stb : Stb
  cars : List Car
  pau : List Pau
  odt : Odt
  rse : List ReseekBatch
  blc : Blc
  aud : Aud
  lines : Lines
  levels : List Levels
  outs : List Out
  agenda : List Nat
  skip : List (Nat × List Demand)
  serial : Nat
  free : Nat
  pending : List Instr
  deriving DecidableEq, Repr, Inhabited

/-- Reasons the part itself stops: none. The spec names no event that stops it; a machinery fault, a refused docket
and a trespass are effects on the state. -/
inductive Fault where
  deriving DecidableEq, Repr

/-- Reasons a command has no meaning in the model. -/
inductive Refusal where
  /-- Raised by an arm of `exec` whose command has no meaning yet; safe, since nothing is claimed of it. No arm raises
  it now. -/
  | notModelled (mnemonic : String)
  deriving DecidableEq, Repr

/-! ### Values after reset -/

/-- A bay after reset (R4). -/
def Bay.reset : Bay := ⟨[], 0, 0, none, none⟩

/-- A carousel's stock after reset (R4, R8, R9). -/
def CarStock.reset : CarStock := ⟨List.replicate Config.bays Bay.reset, [], none⟩

/-- The Stock Table after reset (R1, R4, R14). -/
def Stb.reset : Stb := ⟨[], List.replicate Config.carousels CarStock.reset, []⟩

/-- A port record after reset (R43). -/
def Port.reset : Port := ⟨none, none, none, .none, none, .idle, none, .ready⟩

/-- A Carousel Controller after reset (R21, R43, R148), with the lock causes its inputs give. -/
def Car.reset (gateOpen estop : Bool) : Car where
  state := .offline
  interrupted := none
  sub := none
  offset := none
  drive := none
  powered := false
  brakeHeld := true
  moveTarget := none
  pass := none
  visits := []
  current := none
  idle := none
  brake := none
  provisional := none
  watchdog := none
  gateStop := none
  port := Port.reset
  score := 0
  warnArmed := true
  gateCause := gateOpen
  estopCause := estop
  service := none
  passCount := 0
  stage := none
  recountReturn := none

/-- The Put-away Unit's records of a carousel after reset (R65, R67). -/
def Pau.reset : Pau := ⟨none, none, false, false, false⟩

/-- A lane after reset (R103). -/
def Lane.reset : Lane := ⟨.free, none, 0, 0⟩

/-- The Order Table after reset (R100, R103). -/
def Odt.reset : Odt :=
  ⟨List.replicate Config.orderSlots none, [], 1, List.replicate Config.lanes Lane.reset⟩

/-- The Belt Controller after reset (R118). -/
def Blc.reset (estop : Bool) : Blc :=
  ⟨true, estop, false, false, none, false, 0, List.replicate Config.carousels [], []⟩

/-- A cadence record after reset (R146). -/
def Cadence.reset : Cadence := ⟨0, 0, 0, 0⟩

/-- The Audit Unit after reset (R132, R146). -/
def Aud.reset : Aud :=
  ⟨List.replicate Config.auditSlots none, 0, List.replicate Config.carousels Cadence.reset⟩

/-- A notice record after reset (R170). -/
def Notice.reset : Notice := ⟨false, 0, 0, 0, List.replicate 24 0⟩

/-- Configuration defaults (R23, R53, R71, R77, R108, R148). -/
def Cfg.reset : Cfg := ⟨0, 12, 2, false, 1500, 120, 1800, 96⟩

/-- The Exchange Unit after a reset with the given cause and frame bytes (R162, R169 to R174). -/
def Xu.reset (cause : ResetCause) (mem : List Host.Cell) : Xu where
  mem := mem
  hands := List.replicate Config.frames .host
  intake := []
  returns := []
  notices := List.replicate 16 Notice.reset
  events := ⟨false, false, false, false⟩
  enable := 0
  mode := .setup
  cause := cause
  uptime := 0
  posts := 0
  trespasses := 0
  configureTaken := false
  start := none
  readData := 0

/-- Input levels at power-on (DESIGN CHOICE, log 2): gates closed, nothing present, no emergency stop, merge point
clear. -/
def Lines.reset : Lines := ⟨List.replicate Config.carousels ⟨false, false, false, false⟩, false, true⟩

/-- Every block after a reset, with the lines as they stand (R174). -/
def State.afterReset (cause : ResetCause) (mem : List Host.Cell) (lines : Lines) : State where
  xu := Xu.reset cause mem
  cfg := Cfg.reset
  stb := Stb.reset
  cars := lines.cars.map fun l => Car.reset l.gateOpen lines.estop
  pau := List.replicate Config.carousels Pau.reset
  odt := Odt.reset
  rse := []
  blc := Blc.reset lines.estop
  aud := Aud.reset
  lines := lines
  levels := []
  outs := []
  agenda := []
  skip := []
  serial := 0
  free := 0
  pending := []

/-- The part right after a power-on reset (R174). -/
def State.reset : State := State.afterReset .power [] Lines.reset

end Sys2Proof.Machine
end

