-- ==== Sys2Proof/WellFormed.lean ====
section
/-! DEFINITION. The operand ranges of the commands. An ill-formed command names a line, a frame or a value the part
does not have; the machine gives it no effect of its own (log 34). -/

namespace Sys2Proof

/-- A carousel number, 1 to 12 (R4). -/
def carouselOk (c : Nat) : Bool := decide (1 ≤ c) && decide (c ≤ Config.carousels)

/-- A date code, year 0 to 99 and week 1 to 53 (R3). -/
def dateOk (year week : Nat) : Bool := decide (year ≤ 99) && decide (1 ≤ week) && decide (week ≤ 53)

/-- What a label can say: an article id 1 to 2,047 and a date code (R3). -/
def labelOk (art year week : Nat) : Bool :=
  decide (1 ≤ art) && decide (art ≤ Config.articleIds) && dateOk year week

/-- The range a window offset lies in: a frame by its number, the notice records, or the status page (R161). -/
def regionOf (offset : Nat) : Nat :=
  if offset < Config.noticeBase then offset / Config.frameBytes
  else if offset < Config.statusBase then Config.frames
  else Config.frames + 1

/-- A host write that is one event for one frame or range (R161): not empty, inside the window, in one region. -/
def writeOk (offset : Nat) (bytes : List Byte) : Bool :=
  !bytes.isEmpty && decide (offset + bytes.length ≤ Config.windowEnd) &&
    regionOf offset == regionOf (offset + bytes.length - 1)

/-- Twelve levels, one for each carousel. -/
def levelsOk (levels : List Bool) : Bool := levels.length == Config.carousels

/-- A command's operands lie in their ranges. -/
def Instr.wellFormed : Instr → Bool
  | .powerOnReset => true
  | .halt => true
  | .resume => true
  | .reset => true
  | .eventsClear _ => true
  | .returnRead => true
  | .registerWrite _ _ => true
  | .hostFrameWrite offset bytes => writeOk offset bytes && decide (offset < Config.noticeBase)
  | .recallRequest frame => decide (frame < Config.frames)
  | .trespass offset bytes => writeOk offset bytes
  | .reArm record => decide (record < 16)
  | .configure => true
  | .start => true
  | .article => true
  | .stockLoad => true
  | .store => true
  | .order => true
  | .laneClear => true
  | .glance => true
  | .recount => true
  | .cadence => true
  | .enterMaintenance => true
  | .setScore => true
  | .leaveMaintenance => true
  | .restore => true
  | .bayRead => true
  | .stockQuery => true
  | .orderQuery => true
  | .carrierIndex c _ => carouselOk c
  | .gateOpen c => carouselOk c
  | .gateClose c _ => carouselOk c
  | .estopAssert => true
  | .estopRelease loads => levelsOk loads
  | .gateStopTimeout c => carouselOk c
  | .gripperGot c _ => carouselOk c
  | .gripperEmpty c _ => carouselOk c
  | .gripperDone c _ => carouselOk c
  | .gripperFault c _ => carouselOk c
  | .scanReport c art year week => carouselOk c && labelOk art year week
  | .scanNoRead c => carouselOk c
  | .conversionComplete c code => carouselOk c && decide (code < 4096)
  | .infeedPresentRise c => carouselOk c
  | .infeedPresentFall c => carouselOk c
  | .spurHeadRise c => carouselOk c
  | .mergePointClearRise heads => levelsOk heads
  | .sorterScan art year week => labelOk art year week
  | .sorterNoRead => true
  | .idleTimerExpiry c => carouselOk c
  | .brakeReleaseEnd c => carouselOk c
  | .moveWatchdogExpiry c => carouselOk c
  | .actionLimitExpiry c _ => carouselOk c
  | .scanLimitExpiry c => carouselOk c
  | .settleTimerEnd c => carouselOk c
  | .completionLimitExpiry c => carouselOk c
  | .arrivalTimerExpiry c => carouselOk c
  | .pickTimerExpiry slot => decide (slot < Config.orderSlots)
  | .mergeGuardExpiry heads => levelsOk heads
  | .transitTimerExpiry position => decide (position < Config.trackingRecords)
  | .cadenceTimerExpiry c => carouselOk c
  | .uptimeTick => true
  | .reseekWithdrawn => true
  | .refusedKind => true
  | .mergePointClearFall => true

end Sys2Proof
end

