-- ==== Sys2Proof/Machine/Ops.lean ====
section
/-! DEFINITION. Named operations the meanings share: tables, rankings, bytes, the frames' memory, notice captures, the
return of a frame, and reading and writing one carousel's, order's or audit's part of the state. -/

namespace Sys2Proof.Machine

/-! ### Tables and rankings -/

/-- Insert before the first item that is not smaller. -/
def insertBy (le : α → α → Bool) (x : α) : List α → List α
  | [] => [x]
  | y :: ys => if le x y then x :: y :: ys else y :: insertBy le x ys

/-- Stable insertion sort. -/
def sortBy (le : α → α → Bool) : List α → List α
  | [] => []
  | x :: xs => insertBy le x (sortBy le xs)

/-- Keys in turn: each decides only between lists equal on the keys before it (R39, R76, R84, R122). -/
def keysLe : List Nat → List Nat → Bool
  | [], _ => true
  | _ :: _, [] => false
  | a :: as, b :: bs => decide (a < b) || (decide (a = b) && keysLe as bs)

/-- Rank by keys. -/
def rankBy (key : α → List Nat) (l : List α) : List α := sortBy (fun x y => keysLe (key x) (key y)) l

/-- The first by the ranking. -/
def firstBy (key : α → List Nat) (l : List α) : Option α := (rankBy key l).head?

/-- The list without its first item that satisfies `p`. -/
def dropFirst (p : α → Bool) : List α → List α
  | [] => []
  | x :: xs => if p x then xs else x :: dropFirst p xs

/-- Add a number at the tail of a list that does not hold it. -/
def addOnce (n : Nat) (l : List Nat) : List Nat := if l.contains n then l else l ++ [n]

/-- A count that holds at a largest value. -/
def holdAt (top n : Nat) : Nat := if n < top then n else top

/-- The absolute difference of two figures (R7, R55). -/
def absDiff (a b : Nat) : Nat := (a - b) + (b - a)

/-- The carousels of the part. -/
def allCarousels : List Nat := List.range' 1 Config.carousels

/-! ### Bytes (4.5: little-endian) -/

/-- One byte. -/
def byte (n : Nat) : Byte := BitVec.ofNat 8 n

/-- A one-byte count, holding at 255 (R183). -/
def byte255 (n : Nat) : Byte := byte (holdAt 255 n)

/-- Two bytes. -/
def le16 (n : Nat) : List Byte := [byte n, byte (n / 256)]

/-- Four bytes. -/
def le32 (n : Nat) : List Byte := [byte n, byte (n / 256), byte (n / 65536), byte (n / 16777216)]

/-- The number bytes spell, the first byte the lowest. -/
def leNat : List Byte → Nat
  | [] => 0
  | b :: bs => b.toNat + 256 * leNat bs

/-- A flag byte from its bits, bit 0 first. -/
def flagBits : List Bool → Nat
  | [] => 0
  | b :: bs => b.toNat + 2 * flagBits bs

/-- Exactly `n` bytes: cut, or filled with 0. -/
def padTo (n : Nat) (l : List Byte) : List Byte := (l ++ List.replicate n 0).take n

/-! ### Memory of the docket frames (R161, R162) -/

/-- The byte an unlisted address reads as: frames are all bytes 0 at power-on (R174). -/
def Memory.blank : Byte := 0

/-- The byte at an address. -/
def Memory.read : List Host.Cell → Nat → Byte
  | [], _ => Memory.blank
  | (k, v) :: m, a => if k = a then v else Memory.read m a

/-- Write one byte and keep the canonical form. -/
def Memory.write : List Host.Cell → Nat → Byte → List Host.Cell
  | [], a, b => if b = Memory.blank then [] else [(a, b)]
  | (k, v) :: m, a, b =>
    if a < k then (if b = Memory.blank then (k, v) :: m else (a, b) :: (k, v) :: m)
    else if a = k then (if b = Memory.blank then m else (k, b) :: m)
    else (k, v) :: Memory.write m a b

/-- Write bytes from an address on. -/
def Memory.writeAll : List Host.Cell → Nat → List Byte → List Host.Cell
  | m, _, [] => m
  | m, a, b :: bs => Memory.writeAll (Memory.write m a b) (a + 1) bs

/-- Read bytes from an address on. -/
def Memory.readAll (m : List Host.Cell) (a n : Nat) : List Byte := (List.range n).map fun i => Memory.read m (a + i)

/-- Canonical form above a bound: addresses strictly rising, no blank byte. -/
def Memory.wfFrom : Nat → List Host.Cell → Bool
  | _, [] => true
  | lo, (k, v) :: m => decide (lo ≤ k) && decide (v ≠ Memory.blank) && Memory.wfFrom (k + 1) m

/-- Canonical form. -/
def Memory.wf (m : List Host.Cell) : Bool := Memory.wfFrom 0 m

/-! ### Exchange Unit -/

/-- The window address of byte `i` of frame `f` (R161). -/
def frameAddr (f i : Nat) : Nat := f * Config.frameBytes + i

/-- Byte `i` of frame `f`. -/
def Xu.frameByte (x : Xu) (f i : Nat) : Byte := Memory.read x.mem (frameAddr f i)

/-- Bytes `i` to `i + n - 1` of frame `f`, as a number. -/
def Xu.frameNat (x : Xu) (f i n : Nat) : Nat := leNat (Memory.readAll x.mem (frameAddr f i) n)

/-- Write bytes of a frame from byte `i` on. -/
def Xu.writeFrame (x : Xu) (f i : Nat) (bytes : List Byte) : Xu :=
  { x with mem := Memory.writeAll x.mem (frameAddr f i) bytes }

/-- The hand state of a frame (R162). -/
def Xu.hand (x : Xu) (f : Nat) : Hand := x.hands.getD f .host

/-- The recall flag of a frame in work (R162). -/
def Xu.recalled (x : Xu) (f : Nat) : Bool := x.hand f == .work true

/-- Set a frame's hand state. -/
def Xu.setHand (x : Xu) (f : Nat) (h : Hand) : Xu := { x with hands := x.hands.set f h }

/-- The return of a frame (R167, R175): its list part from byte 8, the whole result section, the hand OPEN, and the
frame number at the tail of the return list. -/
def Xu.frameReturn (x : Xu) (f : Nat) (list : List Byte) (code flags : Nat) (contents : List Byte) : Xu :=
  let x := x.writeFrame f 8 (list.take 96)
  let x := x.writeFrame f 104 (byte code :: byte flags :: padTo 22 contents)
  let x := x.writeFrame f 0 [Config.handOpen]
  let x := x.setHand f .host
  { x with returns := x.returns ++ [f] }

/-- A capture request in notice record `r` (R170): it fills an ARMED record and sets NOTICE, or is counted missed. -/
def Xu.capture (x : Xu) (r kind : Nat) (details : List Byte) : Xu :=
  let n := x.notices.getD r Notice.reset
  if n.held then { x with notices := x.notices.set r { n with missed := holdAt 255 (n.missed + 1) } }
  else { x with
    notices := x.notices.set r ⟨true, kind, 0, x.uptime, padTo 24 details⟩
    events := { x.events with notice := true } }

/-- Notice kinds (R183). -/
def kindScoreWarning : Nat := 0x06
def kindSidelined : Nat := 0x07
def kindRecovered : Nat := 0x08
def kindRecoveryFailed : Nat := 0x09
def kindUnannounced : Nat := 0x0A
def kindOverrun : Nat := 0x0B
def kindLost : Nat := 0x10
def kindStray : Nat := 0x11
def kindChuteFull : Nat := 0x12
def kindGlanceVariance : Nat := 0x20
def kindPlaceVariance : Nat := 0x21
def kindIdentitySlip : Nat := 0x22
def kindRecountChange : Nat := 0x23
def kindLineShortened : Nat := 0x30
def kindPickTimeout : Nat := 0x31
def kindTrespass : Nat := 0x40

/-- The code of a fault kind, as a notice kind (R183). -/
def FaultKind.code : FaultKind → Nat
  | .moveTimeout => 1
  | .positionSlip => 2
  | .gripFault => 3
  | .scanTimeout => 4
  | .gaugeFault => 5

/-- The code of a phase (R183). -/
def FaultPhase.code : FaultPhase → Nat
  | .move => 0
  | .lift => 1
  | .shift => 2
  | .back => 3
  | .place => 4
  | .intake => 5
  | .scan => 6
  | .gauge => 7

/-- The code of a visit kind (R183). -/
def VisitKind.code : VisitKind → Nat
  | .lift => 0
  | .placement => 1
  | .glance => 2
  | .recount => 3
  | .tidy => 4

/-- The code of a carousel state (R171). -/
def CarState.code : CarState → Nat
  | .offline => 0
  | .homing => 1
  | .idle => 2
  | .parked => 3
  | .visiting => 4
  | .locked => 5
  | .sidelined => 6
  | .recovering => 7
  | .maintenance => 8

/-- The code of a part mode (R171). -/
def PartMode.code : PartMode → Nat
  | .setup => 0
  | .running => 1
  | .halting => 2
  | .halted => 3

/-- The code of a gauge outcome from 0, in the order R55 lists them (R183). -/
def Outcome55.code : Outcome55 → Nat
  | .match_ => 0
  | .heightVar => 1
  | .massVar => 2
  | .bothVar => 3

/-- Result codes (11.10). -/
def codeDone : Nat := 0x01
def codeRecalled : Nat := 0x02
def codeDelivered : Nat := 0x03
def codeDeliveredShort : Nat := 0x04
def codeShort : Nat := 0x05
def codeNotFound : Nat := 0x06
def codeNoRoom : Nat := 0x07
def codeOverrun : Nat := 0x08
def codeInfeedTimeout : Nat := 0x09
def codeFault : Nat := 0x0A
def codeCarouselLost : Nat := 0x0B
def codeMapFull : Nat := 0x0C
def codeUnreadable : Nat := 0x0D
def codeUnknownArticle : Nat := 0x0E
def codeHomingFailed : Nat := 0x0F
def codeRecoveryFailed : Nat := 0x10
def codeBusy : Nat := 0x20
def codePortBusy : Nat := 0x21
def codeLaneBusy : Nat := 0x22
def codeTableFull : Nat := 0x23
def codeDuplicate : Nat := 0x24
def codeNotInService : Nat := 0x25
def codeRefusedState : Nat := 0x26
def codeRefusedInStock : Nat := 0x27
def codeRefusedHeld : Nat := 0x28
def codeRefusedUndefined : Nat := 0x29
def codeRefusedReserved : Nat := 0x2A
def codeRefusedLimit : Nat := 0x2B
def codeRefusedCheck : Nat := 0x30
def codeRefusedKind : Nat := 0x31
def codeRefusedLength : Nat := 0x32
def codeRefusedMode : Nat := 0x33
def codeRefusedField : Nat := 0x34

/-! ### Dates and labels -/

/-- The week index of a date code (4.2). -/
def DateCode.weekIndex (d : DateCode) : Nat := d.year * 53 + d.week - 1

/-- The week index of a label's date code. -/
def Label.week (l : Label) : Nat := l.date.weekIndex

/-- A label as four bytes: article id and date code (R183). -/
def Label.bytes (l : Label) : List Byte := le16 l.article ++ [byte l.date.year, byte l.date.week]

/-- A read label and the NO_READ flag. Where nothing was read the flag is 1, the date code 0, 0 (R183) and the article
bytes zeros (log 50). -/
def readBytes : Option Label → List Byte
  | some l => l.bytes ++ [0]
  | none => [0, 0, 0, 0, 1]

/-- The carrier of a bay (4.1). -/
def carrierOf (b : Nat) : Nat := b / 2

/-- The sister bay (4.1). -/
def sisterOf (b : Nat) : Nat := if b % 2 = 0 then b + 1 else b - 1

/-- The side of a bay, A 0 and B 1 (R183). -/
def sideOf (b : Nat) : Nat := b % 2

/-- The shorter distance around the loop (R26). -/
def stepsBetween (o k : Nat) : Nat := min ((k + 20 - o) % 20) ((o + 20 - k) % 20)

/-! ### One carousel's part of the state -/

/-- Whether a carousel is configured (R23). -/
def State.configured (s : State) (c : Nat) : Bool := decide (1 ≤ c) && decide (c ≤ s.cfg.count)

/-- The configured carousels. -/
def State.configuredList (s : State) : List Nat := List.range' 1 s.cfg.count

/-- Carousel `c`'s record. -/
def State.car (s : State) (c : Nat) : Car := s.cars.getD (c - 1) (Car.reset false false)

/-- Write carousel `c`'s record. -/
def State.setCar (s : State) (c : Nat) (x : Car) : State := { s with cars := s.cars.set (c - 1) x }

/-- Change carousel `c`'s record. -/
def State.modCar (s : State) (c : Nat) (f : Car → Car) : State := s.setCar c (f (s.car c))

/-- Change carousel `c`'s port record. -/
def State.modPort (s : State) (c : Nat) (f : Port → Port) : State :=
  s.modCar c fun x => { x with port := f x.port }

/-- Change the visit in progress of carousel `c`. -/
def State.modVisit (s : State) (c : Nat) (f : Visit → Visit) : State :=
  s.modCar c fun x => { x with current := x.current.map f }

/-- Put-away records of carousel `c`. -/
def State.pauOf (s : State) (c : Nat) : Pau := s.pau.getD (c - 1) Pau.reset

/-- Change the put-away records of carousel `c`. -/
def State.modPau (s : State) (c : Nat) (f : Pau → Pau) : State :=
  { s with pau := s.pau.set (c - 1) (f (s.pauOf c)) }

/-- The input lines of carousel `c`. -/
def State.carLines (s : State) (c : Nat) : CarLines := s.lines.cars.getD (c - 1) ⟨false, false, false, false⟩

/-- Change the input lines of carousel `c`. -/
def State.modCarLines (s : State) (c : Nat) (f : CarLines → CarLines) : State :=
  { s with lines := { s.lines with cars := s.lines.cars.set (c - 1) (f (s.carLines c)) } }

/-- The lines of the carousels with the levels a command finds on load present and spur head (log 1). -/
def setLevels : List CarLines → List Bool → List Bool → List CarLines
  | [], _, _ => []
  | x :: xs, loads, heads =>
    { x with load := loads.headD x.load, spurHead := heads.headD x.spurHead } :: setLevels xs loads.tail heads.tail

/-- The lines as the command now taken finds them (log 1). -/
def State.linesNow (s : State) : Lines :=
  match s.levels with
  | [] => s.lines
  | v :: _ => { s.lines with cars := setLevels s.lines.cars v.loads v.heads }

/-- Change the Exchange Unit. -/
def State.modXu (s : State) (f : Xu → Xu) : State := { s with xu := f s.xu }

/-- Change the Stock Table. -/
def State.modStb (s : State) (f : Stb → Stb) : State := { s with stb := f s.stb }

/-- Change the Belt Controller. -/
def State.modBlc (s : State) (f : Blc → Blc) : State := { s with blc := f s.blc }

/-- An output pulse or command. -/
def State.emit (s : State) (o : Out) : State := { s with outs := s.outs ++ [o] }

/-- A capture request (R170). -/
def State.capture (s : State) (r kind : Nat) (details : List Byte) : State :=
  s.modXu fun x => x.capture r kind details

/-- The return of a frame without a list part (R167). -/
def State.answer (s : State) (f code flags : Nat) (contents : List Byte) : State :=
  s.modXu fun x => x.frameReturn f [] code flags contents

/-- In service (Terms): IDLE, PARKED, VISITING or LOCKED. -/
def CarState.inService : CarState → Bool
  | .idle => true
  | .parked => true
  | .visiting => true
  | .locked => true
  | _ => false

/-- Whether a carousel is configured and in service. -/
def State.inService (s : State) (c : Nat) : Bool := s.configured c && (s.car c).state.inService

/-- A lock cause stands (R148). -/
def Car.lockCause (x : Car) : Bool := x.gateCause || x.estopCause

/-- The lock causes of a carousel as data of the drive: stopped, brake held, no move (R28, R41). -/
def Car.driveOff (x : Car) : Car :=
  { x with drive := none, brakeHeld := true, watchdog := none, gateStop := none }

/-- An order slot's record (R100). -/
def State.order (s : State) (slot : Nat) : Option Order := s.odt.orders.getD slot none

/-- Write an order slot. -/
def State.setOrder (s : State) (slot : Nat) (o : Option Order) : State :=
  { s with odt := { s.odt with orders := s.odt.orders.set slot o } }

/-- Change the record of an order slot, if it holds one. -/
def State.modOrder (s : State) (slot : Nat) (f : Order → Order) : State := s.setOrder slot ((s.order slot).map f)

/-- Line `n` of an order, 1 to 8. -/
def Order.line (o : Order) (n : Nat) : Option Line := if n = 0 then none else o.lines[n - 1]?

/-- Change line `n` of an order. -/
def Order.modLine (o : Order) (n : Nat) (f : Line → Line) : Order :=
  if n = 0 then o else { o with lines := o.lines.modify (n - 1) f }

/-- A lane's record, 1 to 16 (R103). -/
def State.lane (s : State) (l : Nat) : Lane := s.odt.lanes.getD (l - 1) Lane.reset

/-- Write a lane's record. -/
def State.setLane (s : State) (l : Nat) (x : Lane) : State :=
  { s with odt := { s.odt with lanes := s.odt.lanes.set (l - 1) x } }

/-- An audit slot's record (R132). -/
def State.audit (s : State) (r : Nat) : Option AuditRec := s.aud.records.getD r none

/-- Write an audit slot. -/
def State.setAudit (s : State) (r : Nat) (a : Option AuditRec) : State :=
  { s with aud := { s.aud with records := s.aud.records.set r a } }

/-- Change the record of an audit slot, if it holds one. -/
def State.modAudit (s : State) (r : Nat) (f : AuditRec → AuditRec) : State := s.setAudit r ((s.audit r).map f)

/-- A cadence record (R146). -/
def State.cadenceOf (s : State) (c : Nat) : Cadence := s.aud.cadence.getD (c - 1) Cadence.reset

/-- Change a cadence record. -/
def State.modCadence (s : State) (c : Nat) (f : Cadence → Cadence) : State :=
  { s with aud := { s.aud with cadence := s.aud.cadence.set (c - 1) (f (s.cadenceOf c)) } }

/-- The spur of a carousel, head first (R118). -/
def State.spur (s : State) (c : Nat) : List SpurRec := s.blc.spurs.getD (c - 1) []

/-- A visit wakes a carousel at rest (R38): a selection pass is put on the agenda of this command (log 10). -/
def State.wake (s : State) (c : Nat) : State :=
  let x := s.car c
  if x.state == .idle || (x.state == .parked && x.brake.isNone) then { s with agenda := addOnce c s.agenda } else s

end Sys2Proof.Machine
end

