-- ==== Sys2Proof/Machine/Stock.lean ====
section
/-! DEFINITION. The Stock Table's requests, each one whole change of the table (01_the_stock_picture). -/

namespace Sys2Proof.Machine

/-- A place where an entry stands (R3). -/
inductive Spot where
  | bay (c b depth : Nat)
  | rack (c position : Nat)
  | gripper (c : Nat)
  deriving DecidableEq, Repr, Inhabited

/-! ### Articles (R1) -/

/-- An undefined article record (R1). -/
def Article.blank : Article := ⟨false, 0, 0, false⟩

/-- The record of an article id. -/
def Stb.article (t : Stb) (a : Nat) : Article :=
  match t.articles.find? fun x => x.1 == a with
  | some x => x.2
  | none => Article.blank

/-- Put a record in the article list, by rising id. -/
def putArticle (a : Nat) (r : Article) : List (Nat × Article) → List (Nat × Article)
  | [] => [(a, r)]
  | (k, v) :: l => if a < k then (a, r) :: (k, v) :: l else if a = k then (k, r) :: l else (k, v) :: putArticle a r l

/-- Set an article record. -/
def Stb.setArticle (t : Stb) (a : Nat) (r : Article) : Stb := { t with articles := putArticle a r t.articles }

/-- Pitch of an article. -/
def Stb.pitch (t : Stb) (a : Nat) : Nat := (t.article a).pitch

/-- Nominal mass of an article. -/
def Stb.mass (t : Stb) (a : Nat) : Nat := (t.article a).mass

/-! ### Places -/

/-- A carousel's stock. -/
def Stb.car (t : Stb) (c : Nat) : CarStock := t.stock.getD (c - 1) CarStock.reset

/-- Write a carousel's stock. -/
def Stb.setCar (t : Stb) (c : Nat) (x : CarStock) : Stb := { t with stock := t.stock.set (c - 1) x }

/-- A bay record. -/
def CarStock.bay (x : CarStock) (b : Nat) : Bay := x.bays.getD b Bay.reset

/-- A bay record of the table. -/
def Stb.bay (t : Stb) (c b : Nat) : Bay := (t.car c).bay b

/-- Write a bay record. -/
def Stb.setBay (t : Stb) (c b : Nat) (x : Bay) : Stb :=
  t.setCar c { t.car c with bays := (t.car c).bays.set b x }

/-- The recorded height of a stack (R4). -/
def Stb.height (t : Stb) (l : List Entry) : Nat := (l.map fun e => t.pitch e.label.article).sum

/-- The recorded load of a stack (R4). -/
def Stb.load (t : Stb) (l : List Entry) : Nat := (l.map fun e => t.mass e.label.article).sum

/-- Give a bay a stack, its height and load computed again from the article table (R4). -/
def Stb.setStack (t : Stb) (c b : Nat) (l : List Entry) : Stb :=
  t.setBay c b { t.bay c b with stack := l, height := t.height l, load := t.load l }

/-- A carrier's recorded load (R7). -/
def CarStock.carrierLoad (x : CarStock) (k : Nat) : Nat := (x.bay (2 * k)).load + (x.bay (2 * k + 1)).load

/-- The recorded loads of carriers 0 to 9 and of carriers 10 to 19 (R7). -/
def CarStock.halves (x : CarStock) : Nat × Nat :=
  (((x.bays.take 20).map (·.load)).sum, ((x.bays.drop 20).map (·.load)).sum)

/-- The carousel's imbalance (R7). -/
def CarStock.imbalance (x : CarStock) : Nat := absDiff x.halves.1 x.halves.2

/-- The number of marked entries of a stack. -/
def markedIn (l : List Entry) : Nat := (l.filter (·.mark.isSome)).length

/-! ### Batch map (R14) -/

/-- The order the map is kept in: article, then week index. -/
def Label.le (a b : Label) : Bool := keysLe [a.article, a.week, a.date.year] [b.article, b.week, b.date.year]

/-- The counts of a key; a key that is absent counts 0. -/
def Stb.batchOf (t : Stb) (k : Label) : Batch := (t.batch.find? fun x => x.key == k).getD ⟨k, 0, 0⟩

/-- Whether the map holds a key. -/
def Stb.hasKey (t : Stb) (k : Label) : Bool := t.batch.any fun x => x.key == k

/-- Give a key its counts: created where it is new, removed where on-hand is 0 (R14). -/
def Stb.putBatch (t : Stb) (x : Batch) : Stb :=
  let rest := t.batch.filter fun y => !(y.key == x.key)
  { t with batch := if x.onHand = 0 then rest else insertBy (fun a b => a.key.le b.key) x rest }

/-- Raise and lower the counts of a key. -/
def Stb.count (t : Stb) (k : Label) (up down markUp markDown : Nat) : Stb :=
  let x := t.batchOf k
  t.putBatch ⟨k, x.onHand + up - down, x.reserved + markUp - markDown⟩

/-- The keys of an article, oldest first. -/
def Stb.keysOf (t : Stb) (a : Nat) : List Batch := t.batch.filter fun x => x.key.article == a

/-- The on-hand total of an article (R2). -/
def Stb.onHandOf (t : Stb) (a : Nat) : Nat := ((t.keysOf a).map (·.onHand)).sum

/-! ### HELD and SUSPECT (R5, R6) -/

/-- A hold request (R5): granted whole, or refused because a bay is held by another record. -/
def Stb.hold (t : Stb) (c r : Nat) (bays : List Nat) : Stb :=
  if bays.any fun b => (t.bay c b).held.any (· != r) then t
  else bays.foldl (fun t b => t.setBay c b { t.bay c b with held := some r }) t

/-- A release request (R5). -/
def Stb.release (t : Stb) (c r : Nat) : Stb :=
  t.setCar c { t.car c with bays := (t.car c).bays.map fun x => if x.held == some r then { x with held := none } else x }

/-- A set request (R6): IDENTITY is the stronger reason. -/
def Stb.suspect (t : Stb) (c b : Nat) (r : Suspect) : Stb :=
  let x := t.bay c b
  match r with
  | .identity => t.setBay c b { x with suspect := some .identity }
  | .variance => t.setBay c b { x with suspect := some (x.suspect.getD .variance) }

/-- A clear request that names VARIANCE (R6). -/
def Stb.clearVariance (t : Stb) (c b : Nat) : Stb :=
  let x := t.bay c b
  if x.suspect == some .variance then t.setBay c b { x with suspect := none } else t

/-! ### Moves (R10 to R13) -/

/-- A take of a bay's top entry (R10). -/
def Stb.takeBay (t : Stb) (c b : Nat) : Stb :=
  match (t.car c).gripper, (t.bay c b).stack with
  | none, e :: rest =>
    let t := t.setStack c b rest
    t.setCar c { t.car c with gripper := some ⟨e, .bay b⟩ }
  | _, _ => t

/-- A take of the rack's top entry (R10). -/
def Stb.takeRack (t : Stb) (c : Nat) : Stb :=
  match (t.car c).gripper, (t.car c).rack with
  | none, e :: rest => t.setCar c { t.car c with rack := rest, gripper := some ⟨e.entry, .rack e.origin⟩ }
  | _, _ => t

/-- A set-down on a bay (R11). -/
def Stb.setDownBay (t : Stb) (c b : Nat) : Stb :=
  match (t.car c).gripper with
  | some h =>
    let t := t.setStack c b (h.entry :: (t.bay c b).stack)
    t.setCar c { t.car c with gripper := none }
  | none => t

/-- The origin bay a gripper entry gives the rack (R8). -/
def Origin.bayNumber : Origin → Option Nat
  | .bay b => some b
  | .rack b => some b
  | .infeed => none

/-- A set-down on the rack (R8, R11). -/
def Stb.setDownRack (t : Stb) (c : Nat) : Stb :=
  match (t.car c).gripper with
  | some h => t.setCar c { t.car c with gripper := none, rack := ⟨h.entry, h.origin.bayNumber.getD 0⟩ :: (t.car c).rack }
  | none => t

/-- The gripper entry leaves stock, by a spur placement or a set-down on the infeed (R12). -/
def Stb.leave (t : Stb) (c : Nat) : Stb :=
  match (t.car c).gripper with
  | some h =>
    let t := t.setCar c { t.car c with gripper := none }
    t.count h.entry.label 0 1 0 h.entry.mark.isSome.toNat
  | none => t

/-- Whether the creation of one entry of a key finds room in the map (R13). -/
def Stb.roomFor (t : Stb) (k : Label) : Bool := t.hasKey k || decide (t.batch.length < Config.mapKeys)

/-- An entry comes into stock at the infeed (R13); the caller has asked `roomFor`. -/
def Stb.create (t : Stb) (c : Nat) (k : Label) : Stb :=
  let t := t.setCar c { t.car c with gripper := some ⟨⟨k, none, 0⟩, .infeed⟩ }
  t.count k 1 0 0 0

/-! ### Marks (R15, R16) -/

/-- Number the items of a list from `i`. -/
def indexFrom (i : Nat) : List α → List (Nat × α)
  | [] => []
  | x :: xs => (i, x) :: indexFrom (i + 1) xs

/-- Every entry of a carousel with its place: bays by number and depth, the rack, the gripper. -/
def CarStock.entries (x : CarStock) (c : Nat) : List (Spot × Entry) :=
  ((indexFrom 0 x.bays).flatMap fun (b, y) => (indexFrom 0 y.stack).map fun (d, e) => (Spot.bay c b d, e)) ++
  ((indexFrom 0 x.rack).map fun (i, e) => (Spot.rack c i, e.entry)) ++
  (match x.gripper with
    | some h => [(Spot.gripper c, h.entry)]
    | none => [])

/-- Every marked entry of the table with its place and its mark. -/
def Stb.marked (t : Stb) : List (Spot × Mark) :=
  (indexFrom 1 t.stock).flatMap fun (c, x) => (x.entries c).filterMap fun (p, e) => e.mark.map fun m => (p, m)

/-- The entry at a place. -/
def Stb.entryAt (t : Stb) : Spot → Option Entry
  | .bay c b d => (t.bay c b).stack[d]?
  | .rack c i => ((t.car c).rack[i]?).map (·.entry)
  | .gripper c => (t.car c).gripper.map (·.entry)

/-- An entry with a mark set at a depth. -/
def Entry.reserve (e : Entry) (m : Mark) (depth : Nat) : Entry := { e with mark := some m, reservedAt := depth }

/-- An entry without a mark. -/
def Entry.free (e : Entry) : Entry := { e with mark := none, reservedAt := 0 }

/-- The depth of a place in a bay; a rack or gripper place counts as depth 0 (R106). -/
def Spot.depth : Spot → Nat
  | .bay _ _ d => d
  | .rack _ _ => 0
  | .gripper _ => 0

/-- Change the mark of the entry at a place; heights and loads do not change. -/
def Stb.modEntry (t : Stb) (p : Spot) (f : Entry → Entry) : Stb :=
  match p with
  | .bay c b d =>
    let x := t.bay c b
    t.setBay c b { x with stack := x.stack.modify d f }
  | .rack c i =>
    let x := t.car c
    t.setCar c { x with rack := x.rack.modify i fun e => { e with entry := f e.entry } }
  | .gripper c =>
    let x := t.car c
    t.setCar c { x with gripper := x.gripper.map fun h => { h with entry := f h.entry } }

/-- Set a mark on the entry at a place that carries none (R15), with the depth it stands at (R87). -/
def Stb.mark (t : Stb) (p : Spot) (m : Mark) : Stb :=
  match t.entryAt p with
  | some e => (t.modEntry p fun e => e.reserve m p.depth).count e.label 0 0 1 0
  | none => t

/-- Take the mark off the entry at a place (R16). -/
def Stb.unmark (t : Stb) (p : Spot) : Stb :=
  match t.entryAt p with
  | some e => if e.mark.isSome then (t.modEntry p Entry.free).count e.label 0 0 0 1 else t
  | none => t

/-- A removal request (R16): the marks of every place and mark that `p` names, and the table without them. -/
def Stb.removeMarks (t : Stb) (p : Spot → Mark → Bool) : Stb × List Mark :=
  let hit := t.marked.filter fun x => p x.1 x.2
  (hit.foldl (fun t x => t.unmark x.1) t, hit.map (·.2))

/-- The one-bay form of R16: the bay's stack, and a gripper entry of origin BAY taken from it. -/
def Stb.ofBay (t : Stb) (c b : Nat) : Spot → Mark → Bool
  | .bay c' b' _, _ => c' == c && b' == b
  | .rack _ _, _ => false
  | .gripper c', _ => c' == c && (t.car c).gripper.any fun h => h.origin == .bay b

/-- The one-carousel form of R16. -/
def ofCarousel (c : Nat) : Spot → Mark → Bool
  | .bay c' _ _, _ => c' == c
  | .rack c' _, _ => c' == c
  | .gripper c', _ => c' == c

/-- The one-order form of R16, with the places it leaves out. -/
def ofOrder (slot : Nat) (spared : List Spot) (p : Spot) (m : Mark) : Bool := m.slot == slot && !spared.contains p

/-! ### Stack replacement (R17) -/

/-- Each item once, in the order of first appearance. -/
def firstOnes : List Label → List Label
  | [] => []
  | k :: ks => k :: (firstOnes ks).filter fun x => !(x == k)

/-- The entries of a key in a list. -/
def countKey (k : Label) (l : List Entry) : Nat := (l.filter fun e => e.label == k).length

/-- The marked entries of a key in a list. -/
def countMarked (k : Label) (l : List Entry) : Nat := (l.filter fun e => e.label == k && e.mark.isSome).length

/-- Keys that a replacement of `old` by `new` creates and removes (R17 step 1). -/
def Stb.replaceKeys (t : Stb) (old new : List Entry) : Nat × Nat :=
  let ks := firstOnes ((new ++ old).map (·.label))
  let made := ks.filter fun k => !t.hasKey k && decide (0 < countKey k new)
  let ended := ks.filter fun k => t.hasKey k && decide ((t.batchOf k).onHand + countKey k new - countKey k old = 0)
  (made.length, ended.length)

/-- A stack replacement (R17): the table, and the keys created and removed; `none` is MAP_FULL. -/
def Stb.replace (t : Stb) (c b : Nat) (new : List Entry) : Option (Stb × Nat × Nat) :=
  let old := (t.bay c b).stack
  let n := t.replaceKeys old new
  if t.batch.length + n.1 - n.2 > Config.mapKeys then none
  else
    let ks := firstOnes ((new ++ old).map (·.label))
    let t := ks.foldl (fun t k => t.count k (countKey k new) (countKey k old) (countMarked k new) (countMarked k old)) t
    let t := t.setStack c b new
    some (t.setBay c b { t.bay c b with suspect := none }, n.1, n.2)

end Sys2Proof.Machine
end

