-- ==== Sys2Proof/Machine/Operands.lean ====
section
/-! DEFINITION. Docket operands: the kinds of 11.2 with their lengths, modes and field checks (R166, R176), and the
fields each kind's owner reads (R177 to R182). -/

namespace Sys2Proof.Machine

/-- Docket kinds (11.2). -/
inductive DocketKind where
  | configure | article | stockLoad | start | store | order | laneClear | glance | recount | cadence | service
  | bayRead | stockQuery | orderQuery
  deriving DecidableEq, Repr, Inhabited

/-- Kind codes (11.2). -/
def DocketKind.code : DocketKind → Nat
  | .configure => 0x01
  | .article => 0x02
  | .stockLoad => 0x03
  | .start => 0x04
  | .store => 0x10
  | .order => 0x11
  | .laneClear => 0x12
  | .glance => 0x20
  | .recount => 0x21
  | .cadence => 0x22
  | .service => 0x30
  | .bayRead => 0x40
  | .stockQuery => 0x41
  | .orderQuery => 0x42

/-- The kinds the dispatcher knows. -/
def allKinds : List DocketKind :=
  [.configure, .article, .stockLoad, .start, .store, .order, .laneClear, .glance, .recount, .cadence, .service,
    .bayRead, .stockQuery, .orderQuery]

/-- The kind a kind byte names (R166 check 2). -/
def kindOfCode (n : Nat) : Option DocketKind := allKinds.find? fun k => k.code == n

/-- Smallest and largest body length (11.2). -/
def DocketKind.lengths : DocketKind → Nat × Nat
  | .configure => (11, 11)
  | .article => (7, 7)
  | .stockLoad => (4, 52)
  | .start => (0, 0)
  | .store => (6, 6)
  | .order => (14, 56)
  | .laneClear => (1, 1)
  | .glance => (4, 20)
  | .recount => (2, 2)
  | .cadence => (5, 5)
  | .service => (3, 3)
  | .bayRead => (2, 2)
  | .stockQuery => (4, 4)
  | .orderQuery => (4, 4)

/-- Check 3 of R166. -/
def DocketKind.lengthOk (k : DocketKind) (n : Nat) : Bool := decide (k.lengths.1 ≤ n) && decide (n ≤ k.lengths.2)

/-- Check 4 of R166: the table of R172. -/
def Xu.permits (x : Xu) (k : DocketKind) : Bool :=
  match k with
  | .configure => x.mode == .setup && x.start.isNone
  | .start => x.mode == .setup && x.start.isNone && x.configureTaken
  | .article => true
  | .stockLoad => true
  | .bayRead => true
  | .stockQuery => true
  | .orderQuery => true
  | .store => x.mode != .setup
  | .order => x.mode != .setup
  | .laneClear => x.mode != .setup
  | .glance => x.mode != .setup
  | .recount => x.mode != .setup
  | .cadence => x.mode != .setup
  | .service => x.mode != .setup

/-- Check 1 of R166: the check word (R175). -/
def Xu.checkOk (x : Xu) (f : Nat) : Bool :=
  decide (((List.range 50).map fun i => x.frameNat f (4 + 2 * i) 2).sum % 65536 = x.frameNat f 2 2)

/-- The kind of a frame. -/
def Xu.kindOf (x : Xu) (f : Nat) : Option DocketKind := kindOfCode (x.frameNat f 1 1)

/-- A field's offset and whether its value is in range. -/
abbrev FieldCheck := Nat × Bool

/-- A value between two bounds. -/
def within (lo hi n : Nat) : Bool := decide (lo ≤ n) && decide (n ≤ hi)

/-- The two checks of a date code, byte by byte (R176). -/
def dateChecks (x : Xu) (f o : Nat) : List FieldCheck :=
  [(o, within 0 99 (x.frameNat f o 1)), (o + 1, within 1 53 (x.frameNat f (o + 1) 1))]

/-- Quantities of lines 1 to `j + 1` of an ORDER body (R179). -/
def quantityTotal (x : Xu) (f j : Nat) : Nat := ((List.range (j + 1)).map fun i => x.frameNat f (18 + 6 * i) 1).sum

/-- The bays listed before item `i` of a GLANCE body (R180). -/
def baysBefore (x : Xu) (f i : Nat) : List Nat := (List.range i).map fun j => x.frameNat f (12 + j) 1

/-- The field checks of a kind in order of offset (R176 to R182); `count` is the carousel count in force. -/
def fieldChecks (x : Xu) (count f : Nat) (k : DocketKind) : List FieldCheck :=
  let at1 := fun o => x.frameNat f o 1
  let at2 := fun o => x.frameNat f o 2
  let carousel : FieldCheck := (8, within 1 count (at1 8))
  let len := at1 6
  match k with
  | .configure =>
    [(8, within 1 12 (at1 8)), (9, [8, 10, 12].contains (at1 9)), (10, [1, 2, 4, 8].contains (at1 10)),
      (11, within 0 1 (at1 11)), (12, within 500 4000 (at2 12)), (14, within 10 600 (at2 14)),
      (16, within 60 7200 (at2 16)), (18, within 16 240 (at1 18))]
  | .start => []
  | .article =>
    [(8, within 1 2047 (at2 8)), (10, within 120 420 (at2 10)), (12, within 40 450 (at2 12)), (14, within 0 1 (at1 14))]
  | .stockLoad =>
    [carousel, (9, within 0 39 (at1 9)), (10, within 0 12 (at1 10) && len == 4 + 4 * at1 10)] ++
      (List.range (at1 10)).flatMap fun i =>
        (12 + 4 * i, within 1 2047 (at2 (12 + 4 * i))) :: dateChecks x f (14 + 4 * i)
  | .store =>
    [carousel, (9, within 1 12 (at1 9)), (10, within 1 2047 (at2 10))] ++ dateChecks x f 12
  | .order =>
    [(8, within 1 2147483647 (x.frameNat f 8 4)), (12, within 0 3 (at1 12)), (13, within 0 1 (at1 13)),
      (14, within 1 8 (at1 14) && len == 8 + 6 * at1 14)] ++
      (List.range (at1 14)).flatMap fun j =>
        [(16 + 6 * j, within 1 2047 (at2 (16 + 6 * j))),
          (18 + 6 * j, within 1 8 (at1 (18 + 6 * j)) && decide (quantityTotal x f j ≤ 12)),
          (19 + 6 * j, within 0 2 (at1 (19 + 6 * j))),
          (20 + 6 * j, if at1 (19 + 6 * j) == 2 then within 1 26 (at1 (20 + 6 * j)) else at1 (20 + 6 * j) == 0)]
  | .laneClear => [(8, within 0 16 (at1 8))]
  | .glance =>
    [carousel, (9, within 0 1 (at1 9)),
      (10, (if at1 9 == 1 then at1 10 == 0 else within 1 16 (at1 10)) && len == 4 + at1 10)] ++
      (List.range (at1 10)).map fun i =>
        (12 + i, within 0 39 (at1 (12 + i)) && !(baysBefore x f i).contains (at1 (12 + i)))
  | .recount => [carousel, (9, within 0 39 (at1 9))]
  | .cadence => [carousel, (9, x.frameNat f 9 4 == 0 || within 60 86400 (x.frameNat f 9 4))]
  | .service => [carousel, (9, within 0 3 (at1 9)), (10, within 0 255 (at1 10))]
  | .bayRead => [carousel, (9, within 0 41 (at1 9))]
  | .stockQuery => [(8, within 1 2047 (at2 8)), (10, within 0 5299 (at2 10))]
  | .orderQuery => [(8, within 1 2147483647 (x.frameNat f 8 4))]

/-- The offset of the first field that fails (R176). -/
def firstBad (l : List FieldCheck) : Option Nat := (l.find? fun x => !x.2).map (·.1)

/-- Checks 3 to 5 of R166 on a frame of a known kind: the result code and contents of the first that fails. -/
def dispatchRefusal (x : Xu) (count f : Nat) (k : DocketKind) : Option (Nat × List Byte) :=
  if !k.lengthOk (x.frameNat f 6 1) then some (codeRefusedLength, [])
  else if !x.permits k then some (codeRefusedMode, [])
  else (firstBad (fieldChecks x count f k)).map fun o => (codeRefusedField, [byte o])

/-! ### Operands the owners read -/

/-- A label at byte `o`: article id and date code. -/
def labelAt (x : Xu) (f o : Nat) : Label := ⟨x.frameNat f o 2, ⟨x.frameNat f (o + 2) 1, x.frameNat f (o + 3) 1⟩⟩

/-- The configuration of a CONFIGURE body (R177). -/
def configureOperands (x : Xu) (f : Nat) : Cfg where
  count := x.frameNat f 8 1
  resolution := x.frameNat f 9 1
  window := x.frameNat f 10 1
  verify := x.frameNat f 11 1 == 1
  imbalanceLimit := x.frameNat f 12 2
  arrivalTime := x.frameNat f 14 2
  pickTime := x.frameNat f 16 2
  warning := x.frameNat f 18 1

/-- The carousel of a docket that names one. -/
def carouselOperand (x : Xu) (f : Nat) : Nat := x.frameNat f 8 1

/-- The record an ARTICLE body gives (R178). -/
def articleOperands (x : Xu) (f : Nat) : Nat × Article :=
  (x.frameNat f 8 2, ⟨true, x.frameNat f 10 2, x.frameNat f 12 2, x.frameNat f 14 1 == 1⟩)

/-- The unmarked entries of a STOCK LOAD body, top first (R178). -/
def loadEntries (x : Xu) (f : Nat) : List Entry :=
  (List.range (x.frameNat f 10 1)).map fun i => ⟨labelAt x f (12 + 4 * i), none, 0⟩

/-- A set rule by its code and span (R179). -/
def setRuleOf (code span : Nat) : SetRule :=
  match code with
  | 0 => .any
  | 1 => .oneBatch
  | _ => .closeBatch span

/-- A line as it stands before admission. -/
def newLine (article quantity : Nat) (rule : SetRule) : Line := ⟨article, quantity, rule, 0, 0, 0, 0, 0, []⟩

/-- The lines of an ORDER body (R179). -/
def orderLines (x : Xu) (f : Nat) : List Line :=
  (List.range (x.frameNat f 14 1)).map fun j =>
    newLine (x.frameNat f (16 + 6 * j) 2) (x.frameNat f (18 + 6 * j) 1)
      (setRuleOf (x.frameNat f (19 + 6 * j) 1) (x.frameNat f (20 + 6 * j) 1))

/-- The bays of a GLANCE body in list order; the whole-carousel flag stands for bays 0 to 39 (R132, R180). -/
def glanceBays (x : Xu) (f : Nat) : List Nat :=
  if x.frameNat f 9 1 == 1 then List.range Config.bays else baysBefore x f (x.frameNat f 10 1)

/-- SERVICE sub-requests (R181). -/
def ServiceKind.code : ServiceKind → Nat
  | .enterMaintenance => 0
  | .setScore => 1
  | .leaveMaintenance => 2
  | .restore => 3

end Sys2Proof.Machine
end

