-- ==== Sys2Proof/Machine/Flags.lean ====
section
/-! DEFINITION. What software sees of the state: the EVENTS bits and the interrupt (R169), the register window (10.6),
the notice records (R170, R183), the status page (R171) and every byte of the exchange window (R161); and the infeed
ready and belt run outputs. All are views of State; no state of their own (log 7). -/

namespace Sys2Proof.Machine

/-- The EVENTS register (R169): RETURNED stands while the return list is not empty. Bits 5 to 31 read 0 (log 21). -/
def Xu.eventBits (x : Xu) : Nat :=
  flagBits [!x.returns.isEmpty, x.events.notice, x.events.trespass, x.events.mode, x.events.estop]

/-- The interrupt request (R169). -/
def Xu.interrupt (x : Xu) : Bool := decide (BitVec.ofNat 5 x.eventBits &&& x.enable ≠ 0)

/-- The value a RETURN read gives (R168). -/
def Xu.returnValue (x : Xu) : Word :=
  match x.returns with
  | [] => 0x0000FFFF
  | f :: rest => BitVec.ofNat 32 (f + 65536 * rest.length)

/-- What a read of the register window gives, its effect on RETURN left aside (10.6). The bits that 10.6 does not
describe, of IDENT 24 to 31 and of EVENTS and EVENT ENABLE 5 to 31, read 0 (log 21). -/
def Xu.registerView (x : Xu) (offset : Nat) : Word :=
  if offset = 0x00 then Config.ident
  else if offset = 0x08 then BitVec.ofNat 32 x.eventBits
  else if offset = 0x0C then x.enable.setWidth 32
  else if offset = 0x10 then x.returnValue
  else 0

/-- The 32 bytes of a notice record (R183). -/
def Notice.bytes (n : Notice) : List Byte :=
  [byte n.held.toNat, byte n.kind, byte n.missed, 0] ++ le32 n.stamp ++ padTo 24 n.details

/-- The belt's run state (R128): it runs when its set of stop causes is empty. -/
def Blc.running (b : Blc) : Bool := !b.modeCause && !b.estopCause && !b.chuteCause

/-- The waiting visits and the visit in progress (R21). -/
def Car.visitCount (x : Car) : Nat := x.visits.length + x.current.isSome.toNat

/-- A carousel's entry on the status page (R171). -/
def State.carouselEntry (s : State) (c : Nat) : List Byte :=
  let x := s.car c
  let t := s.stb.car c
  [byte x.state.code, byte (x.offset.getD 255), byte x.score, byte t.rack.length, byte t.gripper.isSome.toNat,
    byte x.visitCount] ++ le16 t.imbalance ++ le16 (s.cadenceOf c).overruns ++ List.replicate 6 0

/-- The code of a lane state (R171). -/
def LaneState.code : LaneState → Nat
  | .free => 0
  | .filling => 1
  | .complete => 2
  | .disbanded => 3

/-- A lane's entry on the status page (R171). -/
def State.laneEntry (s : State) (l : Nat) : List Byte :=
  let x := s.lane l
  [byte x.state.code, byte x.count, 0, 0] ++ le32 x.number

/-- The status page from 0x10200 on (R171); the bytes after these read 0. -/
def State.statusPage (s : State) : List Byte :=
  [byte s.xu.mode.code, byte (if s.xu.cause == .power then 1 else 2), 0, 0] ++ le32 s.xu.uptime ++ le32 s.xu.posts ++
    le32 s.xu.trespasses ++ allCarousels.flatMap s.carouselEntry ++ (List.range' 1 Config.lanes).flatMap s.laneEntry ++
    [byte s.blc.chute, byte s.blc.running.toNat, byte s.blc.tracking.length]

/-- The byte a host read of the exchange window gives (R161); a read changes nothing. -/
def State.windowByte (s : State) (a : Nat) : Byte :=
  if a < Config.noticeBase then Memory.read s.xu.mem a
  else if a < Config.statusBase then
    let i := a - Config.noticeBase
    ((s.xu.notices.getD (i / 32) Notice.reset).bytes).getD (i % 32) 0
  else s.statusPage.getD (a - Config.statusBase) 0

/-- The infeed ready output (R67). -/
def Pau.ready (p : Pau) : Bool :=
  match p.store with
  | some x => x.state == .waitingArrival && !p.occupied
  | none => false

/-! ### Host accesses to EVENTS and EVENT ENABLE (R169) -/

/-- A write to EVENTS: a 1 clears NOTICE, TRESPASS, MODE and ESTOP; RETURNED is not affected. -/
def Xu.clearEvents (x : Xu) (mask : Word) : Xu :=
  { x with events :=
    { notice := x.events.notice && !mask.getLsbD 1
      trespass := x.events.trespass && !mask.getLsbD 2
      mode := x.events.mode && !mask.getLsbD 3
      estop := x.events.estop && !mask.getLsbD 4 } }

/-- A read of RETURN pops the return list (R168); the value read is kept in `readData` (log 25). -/
def Xu.popReturn (x : Xu) : Xu := { x with readData := x.returnValue, returns := x.returns.tail }

end Sys2Proof.Machine
end

