-- ==== Sys2Proof/Machine/Visits.lean ====
section
/-! DEFINITION. The visit list of a carousel: joining, demands, removals, holdings and the tidy visit
(02_carousel_motion_and_visits 2.7, R34 to R37, R63). -/

namespace Sys2Proof.Machine

/-- A visit as it joins; its number is the model's own identity (log 9). -/
def State.newVisit (s : State) (kind : VisitKind) (target : Option Nat) : Visit where
  id := s.serial
  kind := kind
  target := target
  created := s.xu.uptime
  demands := []
  audit := none
  bays := []
  actions := []
  index := 0
  taken := []

/-- A visit joins the list, and wakes a carousel at rest (R36, R38). -/
def State.joinVisit (s : State) (c : Nat) (v : Visit) : State :=
  ({ s with serial := s.serial + 1 }.modCar c fun x => { x with visits := x.visits ++ [v] }).wake c

/-- Change the waiting visits that satisfy `p`. -/
def mapVisits (p : Visit → Bool) (f : Visit → Visit) (l : List Visit) : List Visit :=
  l.map fun v => if p v then f v else v

/-- The waiting lift visit of a carrier. -/
def isLiftFor (k : Nat) (v : Visit) : Bool := v.kind == .lift && v.target == some k

/-- Entries of a carrier that may still carry a demand's mark: both bays, and rack and gripper entries whose origin bay
is on the carrier (R35). -/
def CarStock.carrierMarks (x : CarStock) (k : Nat) : List Mark :=
  (((x.bay (2 * k)).stack ++ (x.bay (2 * k + 1)).stack).filterMap (·.mark)) ++
  ((x.rack.filter fun e => carrierOf e.origin == k).filterMap (·.entry.mark)) ++
  (match x.gripper with
    | some h => if h.origin.bayNumber.map carrierOf == some k then h.entry.mark.toList else []
    | none => [])

/-- Keep the demands that pair with a mark of the list, one demand to one mark (R35, R56). A kept demand keeps its bay
field: R35 uses R56's pairing to find the demands to drop, and the model reads no rewriting of the others into it
(log 40). -/
def pairDemands : List Demand → List Mark → List Demand
  | [], _ => []
  | d :: ds, ms =>
    let m : Mark := ⟨d.slot, d.line⟩
    if ms.contains m then d :: pairDemands ds (ms.erase m) else pairDemands ds ms

/-- Put a demand into the waiting lift visit of its carrier, which exists (R35); in a full one the unpaired demands are
dropped and the bay fields of the others stay (log 40). -/
def addDemand (stock : CarStock) (k : Nat) (d : Demand) (v : Visit) : Visit :=
  if v.demands.length < Config.visitDemands then { v with demands := v.demands ++ [d] }
  else { v with demands := pairDemands v.demands (stock.carrierMarks k) ++ [d] }

/-- A lift demand at a carousel in service, with the creation time of a visit it may make (R35, R41). -/
def State.placeDemand (s : State) (c : Nat) (created : Nat) (d : Demand) : State :=
  let k := carrierOf d.bay
  if (s.car c).visits.any (isLiftFor k) then
    s.modCar c fun x => { x with
      visits := mapVisits (isLiftFor k) (fun v => { addDemand (s.stb.car c) k d v with created := min v.created created }) x.visits }
  else s.joinVisit c { s.newVisit .lift (some k) with demands := [d], created := created }

/-- A lift demand from the Order Table (R35); a carousel not in service refuses it. -/
def State.sendDemand (s : State) (c : Nat) (d : Demand) : State :=
  if s.inService c then s.placeDemand c s.xu.uptime d else s

/-- Take demands out of the waiting lift visits; one left without demands is removed (R37). -/
def dropDemands (p : Demand → Bool) (l : List Visit) : List Visit :=
  (l.map fun v => if v.kind == .lift then { v with demands := v.demands.filter fun d => !p d } else v).filter
    fun v => !(v.kind == .lift && v.demands.isEmpty)

/-- Demand removal of an order slot (R37). -/
def State.removeDemands (s : State) (c slot : Nat) : State :=
  s.modCar c fun x => { x with visits := dropDemands (fun d => d.slot == slot) x.visits }

/-- Whether a visit is a waiting audit visit. -/
def isAudit (v : Visit) : Bool := v.kind == .glance || v.kind == .recount

/-- Waiting audit visits of a carousel (R36). -/
def Car.auditsWaiting (x : Car) : Nat := (x.visits.filter isAudit).length

/-- A placement visit stands in the list, waiting or in progress. -/
def Car.placementIn (x : Car) : Bool :=
  x.visits.any (fun v => v.kind == .placement) || x.current.any (fun v => v.kind == .placement)

/-- The placement visit in progress. -/
def Car.placementRuns (x : Car) : Bool := x.current.any fun v => v.kind == .placement

/-- The bulk removal of R37: every waiting visit except a tidy visit. -/
def bulkRemoval (l : List Visit) : List Visit := l.filter fun v => v.kind == .tidy

/-- Whether the load-present line of a carousel is active. -/
def State.load (s : State) (c : Nat) : Bool := (s.carLines c).load

/-- The four holdings that call for a tidy visit (R63). -/
def State.holding (s : State) (c : Nat) : Bool :=
  let t := s.stb.car c
  t.gripper.isSome || s.load c || !t.rack.isEmpty || (s.car c).recountReturn.isSome

/-- The carrier of an unrecorded-grip place. -/
def GripPlace.carrier : GripPlace → Option Nat
  | .bay b => some (carrierOf b)
  | .rack => none

/-- The target of a tidy visit: the first that applies (R36). -/
def State.tidyTarget (s : State) (c : Nat) : Option Nat :=
  let t := s.stb.car c
  let x := s.car c
  let byGripper := t.gripper.bind fun h => h.origin.bayNumber.map carrierOf
  let byGrip := if t.gripper.isNone && s.load c then x.port.unrecorded.bind GripPlace.carrier else none
  let byReturn := x.recountReturn.map fun r => carrierOf r.bay
  let byRack := t.rack.head?.map fun e => carrierOf e.origin
  byGripper <|> byGrip <|> byReturn <|> byRack

/-- A tidy visit joins unless one waits (R36). -/
def State.joinTidy (s : State) (c : Nat) : State :=
  if (s.car c).visits.any fun v => v.kind == .tidy then s
  else s.joinVisit c (s.newVisit .tidy (s.tidyTarget c))

/-- A visit's end asks for a tidy visit, or clears the unrecorded-grip place (R63). -/
def State.askTidy (s : State) (c : Nat) : State :=
  if s.holding c then s.joinTidy c else s.modPort c fun p => { p with unrecorded := none }

end Sys2Proof.Machine
end

