-- ==== Sys2Proof/Machine/Reserve.lean ====
section
/-! DEFINITION. The Reservation Engine: candidates and their order, the three set rules, admission, and the search of a
re-seek (05_reservation_and_set_matching). -/

namespace Sys2Proof.Machine

/-- A candidate: its place in a bay stack and its week index (R83, R84). -/
structure Cand where
  c : Nat
  b : Nat
  d : Nat
  week : Nat
  deriving DecidableEq, Repr, Inhabited

/-- The place of a candidate. -/
def Cand.spot (x : Cand) : Spot := .bay x.c x.b x.d

/-- The sort keys of R84: week index, depth, carousel, carrier, side; the bay number orders carrier and side. -/
def Cand.keys (x : Cand) : List Nat := [x.week, x.d, x.c, x.b]

/-- The entries of a bay that can take a mark for an article (R15, R83). -/
def bayCands (c b : Nat) (y : Bay) (article : Nat) : List Cand :=
  if y.held.isNone && y.suspect.isNone then
    (indexFrom 0 y.stack).filterMap fun (d, e) =>
      if e.label.article == article && e.mark.isNone then some ⟨c, b, d, e.label.week⟩ else none
  else []

/-- The candidates for an article in sort order (R83, R84), on the carousels given. -/
def Stb.candidates (t : Stb) (carousels : List Nat) (article : Nat) : List Cand :=
  if (t.article article).blocked then []
  else rankBy Cand.keys
    (carousels.flatMap fun c => (indexFrom 0 (t.car c).bays).flatMap fun (b, y) => bayCands c b y article)

/-- The carousels in service. -/
def State.serviceList (s : State) : List Nat := s.configuredList.filter fun c => s.inService c

/-- The distinct week indices of sorted candidates, lowest first. -/
def weekStarts : List Cand → List Nat
  | [] => []
  | x :: xs => x.week :: (weekStarts xs).filter (· != x.week)

/-- The candidates of the window that starts at `w` with a span (R86); span 0 is the group of one week index (R85). -/
def windowOf (l : List Cand) (span w : Nat) : List Cand := l.filter fun x => decide (w ≤ x.week) && decide (x.week ≤ w + span)

/-- The span of a set rule; ANY has none. -/
def SetRule.span : SetRule → Option Nat
  | .any => none
  | .oneBatch => some 0
  | .closeBatch n => some n

/-- The groups or windows a rule chooses among, in the order it tries them (R85, R86). -/
def SetRule.windows (r : SetRule) (l : List Cand) : List (List Cand) :=
  match r.span with
  | none => [l]
  | some n => (weekStarts l).map (windowOf l n)

/-- The largest window, the first of equals (R89). -/
def largest : List (List Cand) → List Cand
  | [] => []
  | w :: ws => if (largest ws).length > w.length then largest ws else w

/-- The choice of a rule for quantity `q`: the first window that holds `q` gives its first `q` (R85, R86). -/
def SetRule.choose (r : SetRule) (l : List Cand) (q : Nat) : Option (List Cand) :=
  ((r.windows l).find? fun w => decide (q ≤ w.length)).map (·.take q)

/-- Set a line's mark on the places chosen (R87). -/
def Stb.markAll (t : Stb) (m : Mark) (l : List Cand) : Stb := l.foldl (fun t x => t.mark x.spot m) t

/-- Outcome of an admission match: FILLED or PART_FILLED with the table and its marks, and line by line the places of the
marked entries in the order they were chosen, each with its week index, so that a line's reserved count is their number;
or SHORT with the line number and the best count (R87 to R89). -/
inductive Admission where
  | filled (t : Stb) (places : List (List Cand))
  | short (line best : Nat)
  deriving DecidableEq, Repr

/-- Match the lines from line `n` on (R87): under ALL_OR_NOTHING a short line ends it (R88), under PARTIAL it reserves
what its rule allows (R89). -/
def matchLines (carousels : List Nat) (slot : Nat) (partialOk : Bool) :
    Nat → List Line → Stb → List (List Cand) → Admission
  | _, [], t, got => .filled t got
  | n, l :: ls, t, got =>
    let cands := t.candidates carousels l.article
    match l.rule.choose cands l.quantity with
    | some w => matchLines carousels slot partialOk (n + 1) ls (t.markAll ⟨slot, n⟩ w) (got ++ [w])
    | none =>
      let best := largest (l.rule.windows cands)
      if partialOk then
        matchLines carousels slot partialOk (n + 1) ls (t.markAll ⟨slot, n⟩ best) (got ++ [best])
      else .short n best.length

/-- The admission match of R87. Under PARTIAL no tyre on any line is SHORT, naming line 1 and 0 (R89). -/
def admissionMatch (t : Stb) (carousels : List Nat) (slot : Nat) (partialOk : Bool) (lines : List Line) : Admission :=
  match matchLines carousels slot partialOk 1 lines t [] with
  | .filled t' got => if got.all List.isEmpty then .short 1 0 else .filled t' got
  | .short n best => .short n best

/-- The held set of a line (R90): the week indices of entries that carry its mark, one place left out, and its held
list. -/
def State.heldSet (s : State) (slot line : Nat) (held : List Nat) (without : Option Spot) : List Nat :=
  ((s.stb.marked.filter fun x => x.2 == ⟨slot, line⟩ && some x.1 != without).filterMap fun x =>
    (s.stb.entryAt x.1).map fun e => e.label.week) ++ held

/-- Whether a week index qualifies beside a held set (R91). -/
def SetRule.fits (r : SetRule) (h : List Nat) (x : Nat) : Bool :=
  match r.span with
  | none => true
  | some n => h.all fun y => h.all fun z => decide (max x (max y z) ≤ min x (min y z) + n)

/-- The search of R91: the first candidate that qualifies, among those `keep` leaves in (R83). -/
def State.seek (s : State) (slot line : Nat) (l : Line) (without : Option Spot) (keep : Cand → Bool) : Option Cand :=
  let h := s.heldSet slot line l.held without
  (s.stb.candidates s.serviceList l.article).find? fun x => keep x && l.rule.fits h x.week

/-- A batch of re-seeks as it is handed over (R93): by admission sequence, then line; an empty list makes none. -/
def State.handOver (s : State) (cause : ReseekCause) (leaveOut audit : Option Nat) (marks : List Mark) : State :=
  if marks.isEmpty then s
  else
    let items := marks.map fun m => (⟨m, (s.order m.slot).elim 0 (·.seq)⟩ : Withdrawn)
    { s with rse := s.rse ++ [⟨cause, leaveOut, audit, rankBy (fun w => [w.seq, w.mark.line]) items, 0, 0, 0⟩] }

end Sys2Proof.Machine
end

