-- ==== Sys2Proof/Machine/Orders.lean ====
section
/-! DEFINITION. The Order Table: admission, lane binding, reports, the end of an order, recall and release
(06_orders_and_lanes), and the re-seeks whose outcome it counts (R92, R93, R98, R109). -/

namespace Sys2Proof.Machine

/-! ### Counts -/

/-- A total over the lines of an order. -/
def Order.total (o : Order) (f : Line → Nat) : Nat := (o.lines.map f).sum

/-- Outstanding tyres (R116): total quantity less delivered and in transit. -/
def Order.outstanding (o : Order) : Nat := o.total (·.quantity) - o.total (·.delivered) - o.total (·.inTransit)

/-- Priority of a slot as the carousels read it (R116): a slot holding no order counts as 3. -/
def State.priorityOf (s : State) (slot : Nat) : Nat := (s.order slot).elim 3 (·.priority)

/-- Whether a slot's order is PICKING (R116). -/
def State.isPicking (s : State) (slot : Nat) : Bool := (s.order slot).any fun o => o.state == .picking

/-- One mark of a line counted unfilled (R101: withdrawal SHORTENED or RELEASED, and marks removed by a release). -/
def Line.unreserve (l : Line) : Line := { l with reserved := l.reserved - 1, unfilled := l.unfilled + 1 }

/-- A tyre of a line was lifted (R101, R107): its week index joins the held list. -/
def Line.liftOne (week : Nat) (l : Line) : Line :=
  { l with reserved := l.reserved - 1, inTransit := l.inTransit + 1, held := l.held ++ [week] }

/-- A tyre of a line was diverted into its lane (R101, R110). -/
def Line.divertOne (l : Line) : Line := { l with inTransit := l.inTransit - 1, delivered := l.delivered + 1 }

/-- A tyre of a line was lost (R101, R111): the held list loses one item of its week index. Behind it comes
`Line.reserveOne` or `Line.unfillOne`. -/
def Line.loseOne (week : Nat) (l : Line) : Line :=
  { l with inTransit := l.inTransit - 1, lost := holdAt 255 (l.lost + 1), held := l.held.erase week }

/-- The tyre wanted for a lost one was marked (R111, REPLACED). -/
def Line.reserveOne (l : Line) : Line := { l with reserved := l.reserved + 1 }

/-- The tyre wanted for a lost one is not made up (R111, SHORTENED or no re-seek). -/
def Line.unfillOne (l : Line) : Line := { l with unfilled := l.unfilled + 1 }

/-- Change one line of the order in a slot. -/
def State.modLine (s : State) (slot line : Nat) (f : Line → Line) : State := s.modOrder slot fun o => o.modLine line f

/-- Count removed marks unfilled (R113). -/
def State.unreserveAll (s : State) (marks : List Mark) : State :=
  marks.foldl (fun s m => s.modLine m.slot m.line Line.unreserve) s

/-! ### Lanes (R103, R104, R106) -/

/-- The carousel of a place, and the bay that R106 names for it: of a rack or gripper entry its origin bay. -/
def Stb.demandBay (t : Stb) : Spot → Nat × Nat
  | .bay c b _ => (c, b)
  | .rack c i => (c, (((t.car c).rack[i]?).map (·.origin)).getD 0)
  | .gripper c => (c, ((t.car c).gripper.bind (·.origin.bayNumber)).getD 0)

/-- The demand for an entry that carries a mark of the slot, with its carousel (R106). It carries both the depth of R106,
where the entry stands now, and the depth at reservation of R34, R35 and R87 (log 43). -/
def demandFor (t : Stb) (m : Mark) (p : Spot) : Nat × Demand :=
  ((t.demandBay p).1, ⟨m.slot, m.line, (t.demandBay p).2, p.depth, (t.entryAt p).elim 0 (·.reservedAt)⟩)

/-- The order in a slot enters PICKING from LANE_WAIT (R106). R106 gives its lift demands no order: the model sends them
carousel by carousel, and in each by bay, depth, then the rack, then the gripper, which is also the order in which the
carousels' selection passes are called for (log 55). -/
def State.enterPicking (s : State) (slot : Nat) : State :=
  let s := s.modOrder slot fun o => { o with state := .picking, elapsed := 0, run := .running }
  let demands := (s.stb.marked.filter fun x => x.2.slot == slot).map fun x => demandFor s.stb x.2 x.1
  demands.foldl (fun s d => s.sendDemand d.1 d.2) s

/-- The lowest-numbered FREE lane (R104). -/
def State.freeLane (s : State) : Option Nat :=
  (List.range' 1 Config.lanes).find? fun l => (s.lane l).state == .free

/-- One binding (R104 steps 2 and 3). -/
def State.bindOne (s : State) (slot lane : Nat) : State :=
  let number := (s.order slot).elim 0 (·.number)
  let s := { s with odt := { s.odt with waiting := s.odt.waiting.tail } }
  let s := s.setLane lane ⟨.filling, some slot, number, 0⟩
  let s := s.modOrder slot fun o => { o with lane := some lane }
  s.enterPicking slot

/-- Bind until the waiting list is empty or no lane is FREE (R104); one turn for each lane suffices (log 38). -/
def bindTurns : Nat → State → State
  | 0, s => s
  | n + 1, s =>
    match s.odt.waiting, s.freeLane with
    | slot :: _, some lane => bindTurns n (s.bindOne slot lane)
    | _, _ => s

/-- The binding of R104. -/
def State.bind (s : State) : State := bindTurns Config.lanes s

/-- The keys of the lane waiting list (R104). -/
def State.waitKeys (s : State) (slot : Nat) : List Nat := (s.order slot).elim [] fun o => [o.priority, o.seq]

/-- An order joins the waiting list in its ranked place (R104). -/
def State.joinWaiting (s : State) (slot : Nat) : State :=
  { s with odt := { s.odt with waiting := rankBy s.waitKeys (s.odt.waiting ++ [slot]) } }

/-- An order leaves the waiting list. -/
def State.leaveWaiting (s : State) (slot : Nat) : State :=
  { s with odt := { s.odt with waiting := s.odt.waiting.filter (· != slot) } }

/-! ### The end of an order (R112) -/

/-- The contents of an order's result (R179). -/
def orderContents (slot : Nat) (o : Order) : List Byte :=
  [byte slot, byte (o.lane.getD 0)] ++
    padTo 16 (o.lines.flatMap fun l => [byte l.delivered, byte l.unfilled]) ++ [byte255 (o.total (·.lost))]

/-- An order returns (R112): its result, its frame, its slot. -/
def State.returnOrder (s : State) (slot code : Nat) (inLaneWait : Bool) : State :=
  match s.order slot with
  | none => s
  | some o =>
    let s := s.answer o.frame code (flagBits [o.timedOut, inLaneWait]) (orderContents slot o)
    s.setOrder slot none

/-- A lane is left COMPLETE or DISBANDED, its number and count kept (R103). -/
def State.leaveLane (s : State) (lane : Nat) (st : LaneState) : State :=
  s.setLane lane { s.lane lane with state := st, slot := none }

/-- A lane becomes FREE (R105, R112). -/
def State.emptyLane (s : State) (lane : Nat) : State := s.setLane lane Lane.reset

/-- Nothing reserved on any line. -/
def Order.noneReserved (o : Order) : Bool := o.lines.all fun l => l.reserved == 0

/-- Nothing reserved and nothing in transit on any line. -/
def Order.settled (o : Order) : Bool := o.lines.all fun l => l.reserved == 0 && l.inTransit == 0

/-- R112 for a CLOSING order. -/
def State.checkClosing (s : State) (slot : Nat) (o : Order) : State :=
  if o.settled then
    let full := o.lines.all (fun l => l.unfilled == 0) && !o.timedOut
    let s := s.returnOrder slot (if full then codeDelivered else codeDeliveredShort) false
    match o.lane with
    | some l => s.leaveLane l .complete
    | none => s
  else s

/-- R112 for a CANCELLING order. -/
def State.checkCancelling (s : State) (slot : Nat) (o : Order) : State :=
  if o.settled then
    let s := s.returnOrder slot codeRecalled false
    match o.lane with
    | some l => if (s.lane l).count = 0 then (s.emptyLane l).bind else s.leaveLane l .disbanded
    | none => s
  else s

/-- The check of R112 after a change to an order's counts. -/
def State.checkOrder (s : State) (slot : Nat) : State :=
  match s.order slot with
  | none => s
  | some o =>
    match o.state with
    | .laneWait =>
      if o.noneReserved then (s.leaveWaiting slot).returnOrder slot codeDeliveredShort false else s
    | .picking =>
      if o.noneReserved then
        let o' : Order := { o with state := .closing, run := .paused }
        (s.setOrder slot (some o')).checkClosing slot o'
      else s
    | .closing => s.checkClosing slot o
    | .cancelling => s.checkCancelling slot o

/-! ### Re-seeks (R92, R93, R98, R109) -/

/-- A candidate found by a re-seek takes the line's mark (R91). -/
def State.markFound (s : State) (slot line : Nat) (x : Cand) : State := s.modStb fun t => t.mark x.spot ⟨slot, line⟩

/-- The lift demand for an entry that a re-seek has marked (R106, R109, R111): it stands at the depth it was marked at. -/
def State.demandFound (s : State) (slot line : Nat) (x : Cand) : State := s.sendDemand x.c ⟨slot, line, x.b, x.d, x.d⟩

/-- The code of a re-seek cause in a notice (R92, R183). -/
def ReseekCause.code : ReseekCause → Nat
  | .identity => 0
  | .recount => 1
  | .sidelined => 2
  | .maintenance => 3
  | .lost => 4

/-- The LINE_SHORTENED capture of R92, after the change of the counts. -/
def State.noticeShortened (s : State) (slot line : Nat) (cause : ReseekCause) : State :=
  match s.order slot with
  | none => s
  | some o =>
    match o.line line with
    | none => s
    | some l =>
      s.capture 14 kindLineShortened (le32 o.number ++ [byte slot, byte line] ++ le16 l.article ++
        [byte255 l.quantity, byte cause.code, byte255 l.unfilled])

/-- The re-seek made for a lost tyre (R98, R111 step 3) of an order that is PICKING, or CLOSING with the flag clear. -/
def State.reseekLost (s : State) (slot line : Nat) (l : Line) : State :=
  match s.seek slot line l none fun _ => true with
  | some x =>
    let s := (s.markFound slot line x).modOrder slot fun o =>
      let o := o.modLine line Line.reserveOne
      { o with state := .picking, run := .running }
    s.demandFound slot line x
  | none =>
    (s.modLine slot line Line.unfillOne).noticeShortened slot line .lost

/-- A lost report (R111). -/
def State.lostReport (s : State) (slot line week : Nat) : State :=
  let s := s.modLine slot line (Line.loseOne week)
  match s.order slot with
  | none => s
  | some o =>
    match o.line line with
    | none => s
    | some l =>
      let seeks := o.state == .picking || (o.state == .closing && !o.timedOut)
      let s := if seeks then s.reseekLost slot line l
        else s.modLine slot line Line.unfillOne
      s.checkOrder slot

/-- Outcome of one re-seek of a withdrawn mark (R92, R93). -/
inductive Reseek where
  | replaced | shortened | released | gone
  deriving DecidableEq, Repr

/-- A replacement was found for a withdrawn mark (R109, row REPLACED). -/
def State.withdrawnReplaced (s : State) (slot line : Nat) (o : Order) (x : Cand) : State :=
  let s := s.markFound slot line x
  match o.state with
  | .picking => s.demandFound slot line x
  | .closing =>
    if o.timedOut then (s.modStb fun t => t.unmark x.spot).modLine slot line Line.unreserve else s
  | _ => s

/-- One single re-seek of a withdrawn mark, and how the Order Table counts it (R93, R109). A slot that holds no order, or
by now another one, answers GONE: the mark was none of the new order's (R101, log 22). -/
def State.reseekWithdrawnOne (s : State) (cause : ReseekCause) (leaveOut : Option Nat) (w : Withdrawn) : State × Reseek :=
  let m := w.mark
  match (s.order m.slot).filter fun o => o.seq == w.seq with
  | none => (s, .gone)
  | some o =>
    match o.line m.line with
    | none => (s, .gone)
    | some l =>
      if o.state == .cancelling then ((s.modLine m.slot m.line Line.unreserve).checkOrder m.slot, .released)
      else
        match s.seek m.slot m.line l none fun x => some x.c != leaveOut with
        | some x => ((s.withdrawnReplaced m.slot m.line o x).checkOrder m.slot, .replaced)
        | none =>
          let s := (s.modLine m.slot m.line Line.unreserve).noticeShortened m.slot m.line cause
          (s.checkOrder m.slot, .shortened)

/-! ### Reports (R107, R110) -/

/-- A lift report (R107). -/
def State.liftReport (s : State) (slot line week : Nat) : State :=
  let s := s.modLine slot line (Line.liftOne week)
  if s.isPicking slot then s.checkOrder slot else s

/-- A divert report (R110). -/
def State.divertReport (s : State) (slot line lane : Nat) : State :=
  let s := s.modLine slot line Line.divertOne
  let s := s.setLane lane { s.lane lane with count := (s.lane lane).count + 1 }
  s.checkOrder slot

/-! ### Release and recall (R61, R113 to R115) -/

/-- The mark and bay of a LIFT of a slot. -/
def liftOf (slot : Nat) : Action → Option (Mark × Nat)
  | .lift m b _ _ => if m.slot == slot then some (m, b) else none
  | _ => none

/-- The current action's LIFT of the slot that has issued its GRIP_STACK (R61). -/
def Car.liftUnderWay (x : Car) (slot : Nat) : Option (Mark × Nat) :=
  match x.current with
  | none => none
  | some v => if x.port.phase == .ready then none else v.actions.head?.bind (liftOf slot)

/-- The entry a LIFT under way is lifting (R113 step 1). -/
def State.spared (s : State) (c slot : Nat) : List Spot :=
  let x := s.car c
  match x.liftUnderWay slot with
  | none => []
  | some (_, b) => if x.port.phase == .gripping then [.bay c b 0] else [.gripper c]

/-- Void one LIFT of a slot. -/
def voidAction (slot : Nat) : Action → Action
  | .lift m b d v => .lift m b d (v || m.slot == slot)
  | a => a

/-- Take one demand for each voided LIFT out of a visit's demands (R61). -/
def dropVoided (ds : List Demand) (lifts : List (Mark × Nat)) : List Demand :=
  lifts.foldl (fun ds l => dropFirst (fun d => d.slot == l.1.slot && d.line == l.1.line && d.bay == l.2) ds) ds

/-- A LIFT of the slot that is not void yet. -/
def liveLiftOf (slot : Nat) : Action → Option (Mark × Nat)
  | .lift m b _ false => if m.slot == slot then some (m, b) else none
  | _ => none

/-- A void request (R61): every LIFT of the slot in the visit in progress that has not issued its GRIP_STACK. -/
def State.voidLifts (s : State) (c slot : Nat) : State :=
  let busy := (s.car c).port.phase != .ready
  s.modVisit c fun v =>
    let head := if busy then v.actions.take 1 else []
    let rest := if busy then v.actions.drop 1 else v.actions
    { v with
      demands := dropVoided v.demands (rest.filterMap (liveLiftOf slot))
      actions := head ++ rest.map (voidAction slot) }

/-- Steps 2 and 3 of R113: demand removal and mark removal, sparing the lifts under way; the marks removed count
unfilled. -/
def State.removeOrderMarks (s : State) (slot : Nat) : State × List Mark :=
  let spared := s.configuredList.flatMap fun c => s.spared c slot
  let s := s.configuredList.foldl (fun s c => s.removeDemands c slot) s
  let r := s.stb.removeMarks (ofOrder slot spared)
  ({ s with stb := r.1 }.unreserveAll r.2, r.2)

/-- The release of R113. -/
def State.release (s : State) (slot : Nat) : State × List Mark :=
  (s.configuredList.foldl (fun s c => s.voidLifts c slot) s).removeOrderMarks slot

/-- A recall of an ORDER docket (R114). -/
def State.recallOrder (s : State) (slot : Nat) : State :=
  match s.order slot with
  | none => s
  | some o =>
    match o.state with
    | .laneWait =>
      let r := s.stb.removeMarks (ofOrder slot [])
      let s := { s with stb := r.1 }.unreserveAll r.2
      (s.leaveWaiting slot).returnOrder slot codeRecalled true
    | .cancelling => s
    | _ =>
      let s := (s.modOrder slot fun o => { o with run := .stopped }).release slot
      (s.1.modOrder slot fun o => { o with state := .cancelling }).checkOrder slot

/-- The expiry of a pick timer (R108): its elapsed time has reached the pick time. -/
def State.pickExpired (s : State) (slot : Nat) : State :=
  let s := s.modOrder slot fun o => { o with timedOut := true, run := .stopped, elapsed := s.cfg.pickTime * 100 }
  let r := s.release slot
  let s := r.1
  let s := match s.order slot with
    | none => s
    | some o => s.capture 14 kindPickTimeout (le32 o.number ++ [byte slot, byte (o.lane.getD 255), byte255 r.2.length,
        byte255 (o.total (·.delivered)), byte255 (o.total (·.inTransit))])
  (s.modOrder slot fun o => { o with state := .closing }).checkOrder slot

/-- A lift visit's end reports a slot whose demands it carried over (R115). R115 names a CANCELLING order and a CLOSING
one that has timed out; for a slot in another state, or with no order, the model does nothing, and the demand waits in its
visit (log 45). -/
def State.carriedReport (s : State) (slot : Nat) : State :=
  match s.order slot with
  | none => s
  | some o =>
    if o.state == .cancelling || (o.state == .closing && o.timedOut) then
      (s.removeOrderMarks slot).1.checkOrder slot
    else s

end Sys2Proof.Machine
end

