-- ==== Sys2Proof/Machine/Belt.lean ====
section
/-! DEFINITION. Issuing a gripper command (R43, R159), and the Belt Controller: spurs, the merge arbiter, the tracking
list, the sorter, and the stop causes (07_merge_belt_and_sorter). -/

namespace Sys2Proof.Machine

/-! ### Issuing a gripper command -/

/-- Issue a gripper command (R43): the action limit starts from 0, and the Put-away Unit is told of a set-down on the
infeed (R67, R72). While a lock cause stands the command is kept back (R159, log 13). -/
def State.issue (s : State) (c : Nat) (cmd : GripCmd) : State :=
  if (s.car c).lockCause then s.modPort c fun p => { p with held := some ⟨cmd, false⟩ }
  else
    let s := s.modPort c fun p => { p with cmd := some cmd, held := none, actionLimit := some 0 }
    let s := s.emit (.gripper c cmd)
    if cmd == .setDown .infeed then s.modPau c fun p => { p with returnPending := true } else s

/-- Issue a command in a phase of the current action. -/
def State.issueIn (s : State) (c : Nat) (ph : Phase) (cmd : GripCmd) : State :=
  (s.modPort c fun p => { p with phase := ph }).issue c cmd

/-- The spur-room event (R47, R120): a LIFT that waits for spur room issues its SET_DOWN, or remembers the event
through a lock. -/
def State.spurRoom (s : State) (c : Nat) : State :=
  match (s.car c).port.phase with
  | .waitRoom _ =>
    if (s.car c).lockCause then s.modPort c fun p => { p with phase := .waitRoom true }
    else s.issueIn c (.setting .normal) (.setDown .spur)
  | _ => s

/-! ### Merging (R120 to R122) -/

/-- Whether a carousel's spur is a requester (R120). -/
def State.requester (s : State) (c : Nat) : Bool := !(s.spur c).isEmpty && (s.carLines c).spurHead

/-- The requesting spurs. -/
def State.requesters (s : State) : List Nat := s.configuredList.filter fun c => s.requester c

/-- The five conditions of a merge window (R121). -/
def State.mergeWindow (s : State) : Bool :=
  s.blc.running && !s.blc.spent && s.lines.mergeClear && decide (s.blc.tracking.length < Config.trackingRecords) &&
    !s.requesters.isEmpty

/-- The arbiter's keys for a requesting spur (R122): priority, outstanding tyres, carousel. -/
def State.mergeKeys (s : State) (c : Nat) : List Nat :=
  match s.spur c with
  | [] => []
  | r :: _ => [r.priority, (s.order r.slot).elim 0 (·.outstanding), c]

/-- Write a spur. -/
def Blc.setSpur (b : Blc) (c : Nat) (l : List SpurRec) : Blc := { b with spurs := b.spurs.set (c - 1) l }

/-- A merge won by a carousel's spur (R122). -/
def State.merge (s : State) (c : Nat) : State :=
  match s.spur c with
  | [] => s
  | r :: rest =>
    let s := s.emit (.mergeGate c)
    let s := s.modBlc fun b => { b.setSpur c rest with
      tracking := b.tracking ++ [⟨r, c, 0⟩], spent := true, guard := some 0, guardStayed := true }
    s.spurRoom c

/-- A test of the merge window (R121). -/
def State.mergeTest (s : State) : State :=
  if s.mergeWindow then
    match firstBy s.mergeKeys s.requesters with
    | some c => s.merge c
    | none => s
  else s

/-- A spur record joins a spur, and a merge is tried (R119, R121). -/
def State.joinSpur (s : State) (c : Nat) (r : SpurRec) : State :=
  (s.modBlc fun b => b.setSpur c (s.spur c ++ [r])).mergeTest

/-! ### Stop causes (R128) -/

/-- A change of the stop causes: when the belt begins to run, a merge is tried. -/
def State.beltCauses (s : State) (f : Blc → Blc) : State :=
  let s' := s.modBlc f
  if !s.blc.running && s'.blc.running then s'.mergeTest else s'

/-- Add or remove the cause MODE (R131). -/
def State.beltMode (s : State) (on : Bool) : State := s.beltCauses fun b => { b with modeCause := on }

/-- Add or remove the cause ESTOP (R129). -/
def State.beltEstop (s : State) (on : Bool) : State := s.beltCauses fun b => { b with estopCause := on }

/-- The chute count is set to 0 and CHUTE_FULL removed (R130). -/
def State.clearChute (s : State) : State := s.beltCauses fun b => { b with chute := 0, chuteCause := false }

/-! ### Losses and the sorter (R124 to R127) -/

/-- The LOST capture (R127): cause, number lost, the first record lost, the tracking count after the change. -/
def State.noticeLost (s : State) (cause n : Nat) (r : TrackRec) (after : Nat) : State :=
  s.capture 12 kindLost ([byte cause, byte255 n, byte r.carousel, byte r.spur.slot, byte r.spur.line] ++
    r.spur.label.bytes ++ [byte r.spur.lane, byte255 after])

/-- Report a lost record to the Order Table (R111). -/
def State.reportLost (s : State) (r : TrackRec) : State := s.lostReport r.spur.slot r.spur.line r.spur.label.week

/-- A transit timer expires (R124): the record at a position of the tracking list is LOST. -/
def State.transitExpired (s : State) (position : Nat) (r : TrackRec) : State :=
  let s := s.modBlc fun b => { b with tracking := b.tracking.eraseIdx position }
  let after := s.blc.tracking.length
  ((s.reportLost r).noticeLost 1 1 r after).mergeTest

/-- The position of the matching record among the first four (R125). -/
def sorterMatch (l : Label) (t : List TrackRec) : Option Nat :=
  (t.take Config.sorterWindow).findIdx? fun r => r.spur.label == l

/-- A match at the sorter (R125): the records before it are lost, the tyre is diverted into its lane. -/
def State.sorted (s : State) (p : Nat) (r : TrackRec) : State :=
  let skipped := s.blc.tracking.take p
  let s := s.modBlc fun b => { b with tracking := b.tracking.drop (p + 1) }
  let after := s.blc.tracking.length
  let s := skipped.foldl State.reportLost s
  let s := s.emit (.divert r.spur.lane)
  let s := s.divertReport r.spur.slot r.spur.line r.spur.lane
  let s := match skipped with
    | [] => s
    | x :: _ => s.noticeLost 0 skipped.length x after
  s.mergeTest

/-- A stray (R126): the chute divert, the chute count, and STRAY or CHUTE_FULL. -/
def State.stray (s : State) (read : Option Label) : State :=
  let s := s.emit (.divert 0)
  let s := s.modBlc fun b => { b with chute := b.chute + 1 }
  let details := readBytes read ++ [byte s.blc.chute, byte255 s.blc.tracking.length]
  if s.blc.chute < Config.chuteFull then s.capture 12 kindStray details
  else (s.capture 12 kindChuteFull details).beltCauses fun b => { b with chuteCause := true }

/-- A scan event at the sorter (R125, R126); while the belt is STOPPED it is discarded (R128). -/
def State.sorterScan (s : State) (read : Option Label) : State :=
  if s.blc.running then
    match read.bind fun l => sorterMatch l s.blc.tracking with
    | some p =>
      match s.blc.tracking[p]? with
      | some r => s.sorted p r
      | none => s
    | none => s.stray read
  else s

end Sys2Proof.Machine
end

