-- ==== Sys2Proof/Machine/Putaway.lean ====
section
/-! DEFINITION. The Put-away Unit: store records, the infeed, slotting, the outcomes of a placement visit, the end and
the recall of a store (04_put_away). -/

namespace Sys2Proof.Machine

/-- Change the store record of a carousel, if there is one. -/
def State.modStore (s : State) (c : Nat) (f : Store → Store) : State :=
  s.modPau c fun p => { p with store := p.store.map f }

/-- One pulse of the infeed reject output (R67). -/
def State.reject (s : State) (c : Nat) : State := s.emit (.reject c)

/-- Whether the infeed present line is active. -/
def State.infeed (s : State) (c : Nat) : Bool := (s.carLines c).infeed

/-! ### Slotting (R75, R76) -/

/-- Whether a bay qualifies for a tyre (R75). -/
def State.qualifies (s : State) (c b : Nat) (l : Label) : Bool :=
  let y := s.stb.bay c b
  y.held.isNone && y.suspect.isNone && y.stack.all (fun e => e.mark.isNone) &&
    decide (y.stack.length < Config.bayEntries) &&
    decide (y.height + s.stb.pitch l.article ≤ Config.bayHeight) &&
    decide ((s.stb.car c).carrierLoad (carrierOf b) + s.stb.mass l.article ≤ Config.carrierLoad) &&
    y.stack.all fun e => e.label == l

/-- The carousel's imbalance as if a mass were added to a carrier (R76 key 2). -/
def CarStock.imbalanceWith (x : CarStock) (k mass : Nat) : Nat :=
  let h := x.halves
  if k < 10 then absDiff (h.1 + mass) h.2 else absDiff h.1 (h.2 + mass)

/-- The four keys of R76; the bay number orders carrier and side. -/
def State.slotKeys (s : State) (c : Nat) (l : Label) (b : Nat) : List Nat :=
  [(s.stb.bay c b).stack.isEmpty.toNat, (s.stb.car c).imbalanceWith (carrierOf b) (s.stb.mass l.article),
    stepsBetween ((s.car c).offset.getD 0) (carrierOf b), b]

/-- The bay slotting chooses (R76). -/
def State.slot (s : State) (c : Nat) (l : Label) : Option Nat :=
  firstBy (s.slotKeys c l) ((List.range Config.bays).filter fun b => s.qualifies c b l)

/-! ### The end of a store (R79) -/

/-- The result code of a store (R79). -/
def StoreResult.code : StoreResult → Nat
  | .done => codeDone
  | .noRoom => codeNoRoom
  | .mapFull => codeMapFull
  | .overrun => codeOverrun
  | .infeedTimeout => codeInfeedTimeout
  | .fault => codeFault
  | .carouselLost => codeCarouselLost
  | .recalled => codeRecalled

/-- The contents of a store's result (R179). -/
def Store.contents (x : Store) : List Byte :=
  [byte x.stored, byte255 x.refused, byte x.variance, byte (x.lastBay.getD 255)]

/-- A store returns (R79): its result, its frame, its place; a tyre on the infeed is sent back. -/
def State.returnStore (s : State) (c : Nat) (r : StoreResult) : State :=
  match (s.pauOf c).store with
  | none => s
  | some x =>
    let s := s.answer x.frame r.code (flagBits [x.overrun]) x.contents
    let s := s.modPau c fun p => { p with store := none, arrival := none, requestHeld := false }
    if s.infeed c then s.reject c else s

/-- The first cause decides a store's result (R79): a store in PLACING enters ENDING. -/
def State.endStore (s : State) (c : Nat) (r : StoreResult) : State :=
  s.modStore c fun x => if x.state == .placing then { x with state := .ending r } else x

/-- The store enters WAITING_ARRIVAL, its arrival timer from 0 (R70, R71). -/
def State.awaitArrival (s : State) (c : Nat) : State :=
  (s.modStore c fun x => { x with state := .waitingArrival }).modPau c fun p => { p with arrival := some 0 }

/-- A carousel has left service (R80): its store ends at once. -/
def State.pauLost (s : State) (c : Nat) : State := s.returnStore c .carouselLost

/-! ### Arrivals (R68, R69, R72) -/

/-- The Put-away Unit asks for a placement visit (R72). -/
def State.requestPlacement (s : State) (c : Nat) : State :=
  if !s.inService c then s.returnStore c .carouselLost
  else if (s.car c).visits.any fun v => v.kind == .placement then
    s.modPau c fun p => { p with requestHeld := true }
  else (s.modPau c fun p => { p with requestHeld := false }).joinVisit c
    { s.newVisit .placement none with actions := [.intake] }

/-- An accepted arrival (R68). -/
def State.acceptArrival (s : State) (c : Nat) : State :=
  let s := s.modPau c fun p => { p with arrival := none }
  (s.modStore c fun x => { x with state := .placing }).requestPlacement c

/-- An unannounced arrival (R69). -/
def State.unannounced (s : State) (c : Nat) : State :=
  (s.reject c).capture (c - 1) kindUnannounced [byte c, byte s.xu.mode.code]

/-- The code of a store state in a notice (R69, R183): numbered in the order R65 lists the values, where R69's table has
PLACING first (log 41). -/
def StoreState.code : StoreState → Nat
  | .waitingArrival => 0
  | .placing => 1
  | .ending _ => 2

/-- An overrun (R69). -/
def State.overrun (s : State) (c : Nat) (x : Store) : State :=
  let s := s.modStore c fun x => { x with overrun := true }
  let s := s.capture (c - 1) kindOverrun (byte c :: x.label.bytes ++
    [byte x.declared, byte x.stored, byte x.state.code])
  match x.state with
  | .placing =>
    if (s.car c).placementIn || (s.pauOf c).requestHeld then s.endStore c .overrun else s.returnStore c .overrun
  | .waitingArrival => s.returnStore c .overrun
  | .ending _ => s

/-- A rising edge of infeed present (R68). -/
def State.infeedRise (s : State) (c : Nat) : State :=
  let p := s.pauOf c
  let s := s.modPau c fun p => { p with occupied := true }
  if p.returnPending then s
  else
    match p.store with
    | none => s.unannounced c
    | some x => if p.ready then s.acceptArrival c else s.overrun c x

/-- The store's placement visit has ended and its infeed is EMPTY (R70). -/
def State.storeCleared (s : State) (c : Nat) : Bool :=
  !(s.car c).placementIn && !(s.pauOf c).requestHeld && !(s.pauOf c).occupied

/-- A store in PLACING goes on to its next tyre when both conditions of R70 hold. -/
def State.nextTyre (s : State) (c : Nat) : State :=
  match (s.pauOf c).store with
  | some x => if x.state == .placing && s.storeCleared c then s.awaitArrival c else s
  | none => s

/-- A falling edge of infeed present (R70), the waiting PLACE left to the port. -/
def State.infeedFall (s : State) (c : Nat) : State :=
  (s.modPau c fun p => { p with occupied := false, returnPending := false }).nextTyre c

/-! ### Outcomes of a placement visit (R72 to R78) -/

/-- Put actions behind the current one of a visit. -/
def State.addActions (s : State) (c : Nat) (l : List Action) : State :=
  s.modVisit c fun v => { v with actions := v.actions.take 1 ++ l }

/-- The INTAKE's grip found no tyre (R72). -/
def State.intakeEmpty (s : State) (c : Nat) : State :=
  if s.infeed c then
    (s.reject c).modStore c fun x => { x with refused := holdAt 255 (x.refused + 1) }
  else s

/-- An entry is created and the visit gets its target, PLACE and GAUGE (R74). -/
def State.acceptTyre (s : State) (c b : Nat) (l : Label) : State :=
  let s := s.modStb fun t => t.create c l
  let s := s.modVisit c fun v => { v with target := some (carrierOf b) }
  s.addActions c (.place (.bay b) :: if s.cfg.verify then [.gauge b] else [])

/-- The intake scan's outcome (R73, R74). -/
def State.intakeScanned (s : State) (c : Nat) (read : Option Label) : State :=
  match (s.pauOf c).store with
  | none => s.addActions c [.place .infeed]
  | some x =>
    if read == some x.label then
      match s.slot c x.label with
      | none => (s.endStore c .noRoom).addActions c [.place .infeed]
      | some b =>
        if s.stb.roomFor x.label then s.acceptTyre c b x.label
        else (s.endStore c .mapFull).addActions c [.place .infeed]
    else
      (s.modStore c fun x => { x with refused := holdAt 255 (x.refused + 1) }).addActions c [.place .infeed]

/-- A tyre has been placed on a bay (R77). -/
def State.placed (s : State) (c b : Nat) : State :=
  s.modStore c fun x =>
    let x := { x with stored := x.stored + 1, lastBay := some b }
    if x.stored == x.declared && x.state == .placing then { x with state := .ending .done } else x

/-- Readings and recorded figures in a notice (R183). -/
def readingBytes (height load recHeight recLoad : Nat) : List Byte :=
  le16 height ++ le16 load ++ le16 recHeight ++ le16 recLoad

/-- A verification GAUGE's outcome (R78). -/
def State.verified (s : State) (c b : Nat) (o : Outcome55) (readings : List Byte) : State :=
  if o == .match_ then s
  else
    let s := s.modStb fun t => t.suspect c b .variance
    let s := s.capture 13 kindPlaceVariance ([byte c, byte b, byte o.code] ++ readings)
    s.modStore c fun x => { x with variance := x.variance + 1 }

/-- DONE of a set-down on the infeed: the returned tyre is sent away (R72). -/
def State.infeedDone (s : State) (c : Nat) : State := s.reject c

/-- A GRIP_FAULT of a set-down on the infeed (R67). -/
def State.infeedFault (s : State) (c : Nat) : State :=
  if s.infeed c then s else s.modPau c fun p => { p with returnPending := false }

/-- The placement visit has ended (R70, R79, R80). -/
def State.placementEnded (s : State) (c : Nat) (fault : Bool) : State :=
  if (s.pauOf c).requestHeld then s.requestPlacement c
  else
    match (s.pauOf c).store with
    | none => s
    | some x =>
      match x.state with
      | .ending r => s.returnStore c r
      | .placing => if fault then s.returnStore c .fault else s.nextTyre c
      | .waitingArrival => s

/-! ### The STORE docket and its recall (R66, R81) -/

/-- The record an accepted STORE makes (R66). -/
def newStore (label : Label) (declared frame : Nat) : Store :=
  ⟨label, declared, 0, 0, 0, none, false, .waitingArrival, frame⟩

/-- The Put-away Unit takes a STORE docket (R66). -/
def State.takeStore (s : State) (f : Nat) : State :=
  let c := carouselOperand s.xu f
  let l := labelAt s.xu f 10
  if (s.pauOf c).store.isSome then s.answer f codePortBusy 0 []
  else if !(s.stb.article l.article).defined then s.answer f codeRefusedUndefined 0 []
  else if !s.inService c then s.answer f codeNotInService 0 []
  else s.modPau c fun p => { p with store := some (newStore l (s.xu.frameNat f 9 1) f), arrival := some 0 }

/-- A recall of a STORE docket (R81). A waiting placement visit that is removed has its accepted tyre sent back by one
pulse of R81; the emptied place pulses again while a tyre still stands at the infeed (R79 step 4). -/
def State.recallStore (s : State) (c : Nat) : State :=
  match (s.pauOf c).store with
  | none => s
  | some x =>
    match x.state with
    | .waitingArrival => s.returnStore c .recalled
    | .ending _ => s
    | .placing =>
      if (s.car c).placementRuns then s.endStore c .recalled
      else
        let waits := (s.car c).visits.any fun v => v.kind == .placement
        let s := s.modCar c fun x => { x with visits := x.visits.filter fun v => v.kind != .placement }
        let s := if waits then s.reject c else s
        s.returnStore c .recalled

end Sys2Proof.Machine
end

