-- ==== Sys2Proof/Machine/Audit.lean ====
section
/-! DEFINITION. The Audit Unit: audit records, glances, recounts and their evaluation, recalls, and the cadence
(08_stock_audits). -/

namespace Sys2Proof.Machine

/-! ### Records (R132, R133) -/

/-- A record as it is made (R133). -/
def newAudit (recount : Bool) (c acceptance frame : Nat) (whole : Bool) (bays : List Nat) : AuditRec where
  recount := recount
  carousel := c
  acceptance := acceptance
  frame := frame
  whole := whole
  bays := bays
  outcomes := if recount then [] else bays.map fun _ => .pending
  visit := .none
  asking := false
  recallTaken := false
  faultSeen := false
  carouselLost := false
  tooLate := false
  phase := .queued
  found := []
  moved := 0
  movedAtEnd := 0
  stop := none
  stopAtStart := false
  gripped := false
  pass1Done := false
  diffs := []
  orderChanged := false
  withdrawn := 0
  replaced := 0
  shortened := 0
  reseek := false
  ended := false
  code := 0

/-- The recounted bay b. -/
def AuditRec.bay (a : AuditRec) : Nat := a.bays.headD 0

/-- The bays of a GLANCE that are still PENDING, in list order. -/
def AuditRec.pendingBays (a : AuditRec) : List Nat :=
  ((a.bays.zip a.outcomes).filter fun x => x.2 == .pending).map (·.1)

/-- A bay's outcome is recorded (R136). -/
def AuditRec.setOutcome (a : AuditRec) (b : Nat) (o : BayOutcome) : AuditRec :=
  { a with outcomes := (a.bays.zip a.outcomes).map fun x => if x.1 == b then o else x.2 }

/-- PENDING bays that satisfy `p` become NOT_DONE (R137, R138). -/
def AuditRec.notDone (a : AuditRec) (p : Nat → Bool) : AuditRec :=
  { a with outcomes := (a.bays.zip a.outcomes).map fun x => if x.2 == .pending && p x.1 then .notDone else x.2 }

/-- The code of a bay's outcome in a returned GLANCE (R180). -/
def BayOutcome.code : BayOutcome → Nat
  | .pending => 0
  | .done o => o.code + 1
  | .notDone => 5

/-- Whether a bay varied. -/
def BayOutcome.varies : BayOutcome → Bool
  | .done o => o != .match_
  | _ => false

/-- How many bays have an outcome. -/
def AuditRec.countOf (a : AuditRec) (o : BayOutcome) : Nat := (a.outcomes.filter (· == o)).length

/-- The first 16 varying bays, 0xFF in places unused (R137, R180). -/
def AuditRec.varyingBytes (a : AuditRec) : List Byte :=
  (((a.bays.zip a.outcomes).filter fun x => x.2.varies).map (fun x => byte x.1) ++ List.replicate 16 (byte 255)).take 16

/-- The contents of a GLANCE's result (R180). -/
def AuditRec.glanceContents (a : AuditRec) : List Byte :=
  [byte (a.countOf (.done .match_)), byte (a.countOf (.done .heightVar)), byte (a.countOf (.done .massVar)),
    byte (a.countOf (.done .bothVar)), byte (a.countOf .notDone)] ++ a.varyingBytes

/-- A GLANCE returns (R137, R138). -/
def State.returnGlance (s : State) (r : Nat) (a : AuditRec) : State :=
  let s := s.modXu fun x => x.frameReturn a.frame (a.outcomes.map fun o => byte o.code)
    (if a.recallTaken then codeRecalled else codeDone) (flagBits [a.faultSeen, a.carouselLost]) a.glanceContents
  s.setAudit r none

/-- A GLANCE record ends when no bay is PENDING and it has no visit (R137). -/
def State.checkGlance (s : State) (r : Nat) : State :=
  match s.audit r with
  | none => s
  | some a => if a.pendingBays.isEmpty && a.visit == .none && !a.asking then s.returnGlance r a else s

/-- The code of a stop cause (R180). -/
def stopCode : Option StopCause → Nat
  | none => 0
  | some .noRoom => 1
  | some .unreadable => 2
  | some .unknownArticle => 3

/-- One item of a difference list as six bytes (R180). -/
def Difference.bytes (d : Difference) : List Byte := d.key.bytes ++ [byte d.recorded, byte d.found]

/-- The contents of a recount that reached its evaluation (R180). -/
def AuditRec.settledContents (a : AuditRec) : List Byte :=
  byte a.diffs.length :: padTo 18 ((a.diffs.take 3).flatMap Difference.bytes) ++
    [byte a.withdrawn, byte a.replaced, byte a.shortened]

/-- A RECOUNT returns (R143 to R145, R180). Without evaluation the moved count is that of the moment pass 1 ended
(R144, log 16). -/
def State.returnRecount (s : State) (r : Nat) (a : AuditRec) : State :=
  let full := a.code == codeDone || a.code == codeMapFull
  let flags := if full then flagBits [a.orderChanged] else flagBits [false, a.stopAtStart]
  let contents := if full then a.settledContents else [byte (stopCode a.stop), byte a.movedAtEnd]
  (s.answer a.frame a.code (flags + 128 * a.tooLate.toNat) contents).setAudit r none

/-- A RECOUNT returns when its visit has ended and the Reservation Engine has answered (R143). -/
def State.checkRecount (s : State) (r : Nat) : State :=
  match s.audit r with
  | none => s
  | some a => if a.ended && !a.reseek then s.returnRecount r a else s

/-- A RECOUNT is decided without evaluation, and its visit has left the list (R144, R145). -/
def State.endRecount (s : State) (r code : Nat) : State :=
  (s.modAudit r fun a => { a with code := code, visit := .none, asking := false, ended := true }).checkRecount r

/-! ### Requests for visits (R134) -/

/-- The bays and carrier of the next visit of a record (R134). -/
def AuditRec.nextVisit (a : AuditRec) : Option (Nat × List Nat) :=
  if a.recount then some (carrierOf a.bay, [a.bay, sisterOf a.bay])
  else
    match a.pendingBays with
    | [] => none
    | b :: _ => some (carrierOf b, a.pendingBays.filter fun x => carrierOf x == carrierOf b)

/-- A record's carousel has left service (R137, R144): PENDING bays are not done, a waiting recount is lost. -/
def State.auditLost (s : State) (r : Nat) : State :=
  match s.audit r with
  | none => s
  | some a =>
    if a.recount then
      if a.ended then s else s.endRecount r codeCarouselLost
    else
      (s.modAudit r fun a => { a.notDone fun _ => true with
        carouselLost := true, visit := .none, asking := false }).checkGlance r

/-- Ask the carousel for a record's next visit (R36, R134); true when the answer was LIST_FULL. -/
def State.askVisit (s : State) (r : Nat) : State × Bool :=
  match s.audit r with
  | none => (s, false)
  | some a =>
    match a.nextVisit with
    | none => (s.checkGlance r, false)
    | some (k, bays) =>
      if !s.inService a.carousel then (s.auditLost r, false)
      else if (s.car a.carousel).auditsWaiting ≥ Config.waitingAudits then
        (s.modAudit r fun a => { a with asking := true }, true)
      else
        let s := s.modAudit r fun a => { a with asking := false, visit := .waiting k }
        let v := s.newVisit (if a.recount then .recount else .glance) (some k)
        (s.joinVisit a.carousel { v with audit := some r, bays := bays }, false)

/-- Records of a carousel that hold a request, lowest acceptance first (R134). -/
def State.askingRecords (s : State) (c : Nat) : List Nat :=
  rankBy (fun r => [(s.audit r).elim 0 (·.acceptance)])
    ((List.range Config.auditSlots).filter fun r => (s.audit r).any fun a => a.carousel == c && a.asking)

/-- Ask again in turn, until an answer is LIST_FULL (R134). -/
def askInTurn : List Nat → State → State
  | [], s => s
  | r :: rs, s =>
    let x := s.askVisit r
    if x.2 then x.1 else askInTurn rs x.1

/-- An audit visit has left a carousel's list (R134): its own GLANCE record asks first, then those that hold a
request. -/
def State.auditVisitLeft (s : State) (c : Nat) (own : Option Nat) : State :=
  let s := match own with
    | some r => if (s.audit r).any fun a => !a.recount && a.visit == .none && !a.asking then (s.askVisit r).1 else s
    | none => s
  askInTurn (s.askingRecords c) s

/-! ### Visit start and end (R135, R137, R139, R144) -/

/-- An audit visit with a record has started (R134, R139). -/
def State.auditStarted (s : State) (r : Nat) (k : Nat) : State :=
  s.modAudit r fun a => { a with visit := .inProgress k, phase := if a.recount then .pass1 else a.phase }

/-- The room check of a recount (R139). -/
def State.recountRoom (s : State) (c b : Nat) : Bool :=
  let x := s.stb.bay c b
  let y := s.stb.bay c (sisterOf b)
  decide (x.stack.length + y.stack.length ≤ Config.bayEntries) && decide (x.height + y.height ≤ Config.bayHeight)

/-- How a visit ended, as its owner learns it: cleanly, at its room check or empty plan, or at a fault that may have
sidelined the carousel. -/
inductive EndKind where
  | clean
  | neither
  | fault (lost : Bool)
  deriving DecidableEq, Repr

/-- Whether a visit ended at a fault. -/
def EndKind.isFault : EndKind → Bool
  | .fault _ => true
  | _ => false

/-- Whether the fault took the carousel out of service. -/
def EndKind.isLost : EndKind → Bool
  | .fault l => l
  | _ => false

/-- A GLANCE record's visit has ended (R137, R138). A fault that sidelines the carousel sets the fault-seen and the
carousel-lost flag alike, also where it leaves no bay PENDING (log 49). -/
def State.glanceEnded (s : State) (r : Nat) (v : Visit) (e : EndKind) : State :=
  let s := s.modAudit r fun a =>
    let a := { a with visit := .none }
    let a := if e.isFault then { a.notDone fun b => v.bays.contains b with faultSeen := true } else a
    let a := if e.isLost then { a.notDone fun _ => true with carouselLost := true } else a
    if a.recallTaken then a.notDone fun _ => true else a
  s.checkGlance r

/-- The result code of a recount stopped in pass 1 (R144). -/
def StopCause.code : StopCause → Nat
  | .noRoom => codeNoRoom
  | .unreadable => codeUnreadable
  | .unknownArticle => codeUnknownArticle

/-- The SUSPECT reason of a recount stopped in pass 1 (R144). -/
def StopCause.reason : StopCause → Suspect
  | .noRoom => .variance
  | _ => .identity

/-- A recount's visit has ended (R139, R143 to R145). `lost`: its fault overflows the score. R144 gives CAROUSEL_LOST for a
fault that sidelined the carousel and FAULT for another. With an ENTER_MAINTENANCE pending such a fault takes the
carousel to MAINTENANCE instead (R153), which R144's table does not name: the model gives CAROUSEL_LOST there too
(log 54). -/
def State.recountEnded (s : State) (r : Nat) (a : AuditRec) (e : EndKind) : State :=
  let c := a.carousel
  match e with
  | .neither =>
    (s.modAudit r fun a => { a with stop := some .noRoom, stopAtStart := true }).endRecount r codeNoRoom
  | .fault lost =>
    let s := s.modStb fun t => t.suspect c a.bay .variance
    let s := s.modAudit r fun a => if a.phase == .pass1 then { a with movedAtEnd := a.moved } else a
    s.endRecount r (if lost then codeCarouselLost else codeFault)
  | .clean =>
    if a.pass1Done then (s.modAudit r fun a => { a with visit := .none, ended := true }).checkRecount r
    else
      match a.stop with
      | some x => (s.modStb fun t => t.suspect c a.bay x.reason).endRecount r x.code
      | none => s.endRecount r codeRecalled

/-- An audit visit has ended, with or without a record (R134, R137, R144, R147). -/
def State.auditEnded (s : State) (c : Nat) (v : Visit) (e : EndKind) : State :=
  let s := match v.audit with
    | none => s
    | some r =>
      match s.audit r with
      | none => s
      | some a => if a.recount then s.recountEnded r a e else s.glanceEnded r v e
  s.auditVisitLeft c v.audit

/-- A waiting visit falls to the bulk removal, and where it is an audit visit its carousel reports it (R134). Its record
is lost (R137, R144): a GLANCE that asks for its next carrier here is answered NOT_IN_SERVICE, and a RECOUNT returns at
the removal. Then the records that hold a request ask again. -/
def State.auditVisitRemoved (s : State) (c : Nat) (v : Visit) : State :=
  if isAudit v then
    let s := match v.audit with
      | some r => if (s.audit r).any fun (a : AuditRec) => a.carousel == c then s.auditLost r else s
      | none => s
    s.auditVisitLeft c none
  else s

/-- A carousel has left service (R137, R144): every record of it that still works there is lost. The reports of R134 have
ended those with a waiting visit or a held request, and the end of the visit in progress its own, so a run leaves none
here; the model would take them by slot, 0 to 7 (log 46). -/
def State.auLost (s : State) (c : Nat) : State :=
  (List.range Config.auditSlots).foldl
    (fun s r => if (s.audit r).any fun a => a.carousel == c then s.auditLost r else s) s

/-! ### Gauge outcomes (R136) -/

/-- A glance's GAUGE reports its outcome (R136). -/
def State.glanced (s : State) (c b : Nat) (record : Option Nat) (o : Outcome55) (readings : List Byte) : State :=
  let s := s.modStb fun t => if o == .match_ then t.clearVariance c b else t.suspect c b .variance
  match record with
  | some r => s.modAudit r fun a => a.setOutcome b (.done o)
  | none => if o == .match_ then s else s.capture 13 kindGlanceVariance ([byte c, byte b, byte o.code] ++ readings)

/-! ### Recounts (R140 to R143) -/

/-- What the scan of a pass 1 action decides (R140): a stop, or the set-down on the sister bay. -/
def State.recountRead (s : State) (a : AuditRec) (read : Option Label) : SetPurpose :=
  match read with
  | none => .stop .unreadable
  | some l =>
    if !(s.stb.article l.article).defined then .stop .unknownArticle
    else
      let y := s.stb.bay a.carousel (sisterOf a.bay)
      let height := y.height + (a.found.map fun k => s.stb.pitch k.article).sum + s.stb.pitch l.article
      if y.stack.length + a.moved = Config.bayEntries || height > Config.bayHeight then .stop .noRoom else .found l

/-- The marked entries of a key in b's record, ranked: admission sequence, then line (R142 step 1). -/
def State.rankMarked (s : State) (k : Label) (l : List Entry) : List Entry :=
  rankBy (fun e => e.mark.elim [] fun m => [(s.order m.slot).elim 4294967296 (·.seq), m.line])
    (l.filter fun e => e.label == k && e.mark.isSome)

/-- Give the found list the kept marks: of each key the earliest-ranked mark to its topmost entry (R142 step 2). The
entry that held the mark, of the same key, stands for the tyre found, so the mark keeps its depth at reservation. -/
def placeMarks (marked : Label → List Entry) : List Label → (Label → Nat) → List Entry
  | [], _ => []
  | l :: ls, used =>
    ((marked l)[used l]?).getD ⟨l, none, 0⟩ ::
      placeMarks marked ls (fun k => if k == l then used k + 1 else used k)

/-- The difference list (R142). -/
def differences (old : List Entry) (found : List Label) : List Difference :=
  let f := fun k => (found.filter (· == k)).length
  ((firstOnes (found ++ old.map (·.label))).map fun k => (⟨k, countKey k old, f k⟩ : Difference)).filter
    fun d => d.recorded != d.found

/-- The marks withdrawn by an evaluation, key by key (R142 step 3). -/
def withdrawnMarks (marked : Label → List Entry) (old : List Entry) (found : List Label) : List Mark :=
  (firstOnes (old.map (·.label))).flatMap fun k =>
    ((marked k).drop (found.filter (· == k)).length).filterMap (·.mark)

/-- The RECOUNT_CHANGE capture (R143): carousel, b, differing keys, the first difference, withdrawn, net change. Where
only the order changed there is no difference, and its six bytes are zeros (log 48). -/
def State.noticeRecount (s : State) (c b : Nat) (diffs : List Difference) (withdrawn : Nat) (net : List Byte) : State :=
  s.capture 13 kindRecountChange ([byte c, byte b, byte255 diffs.length] ++
    padTo 6 ((diffs.take 1).flatMap Difference.bytes) ++ [byte255 withdrawn] ++ net)

/-- The evaluation of a recount whose pass 1 had full success (R142, R143). -/
def State.evaluate (s : State) (r : Nat) (a : AuditRec) : State :=
  let c := a.carousel
  let b := a.bay
  let old := (s.stb.bay c b).stack
  let marked := fun k => s.rankMarked k old
  let new := placeMarks marked a.found fun _ => 0
  let gone := withdrawnMarks marked old a.found
  let diffs := differences old a.found
  let changed := diffs.isEmpty && !(old.map (·.label) == a.found)
  match s.stb.replace c b new with
  | none => s.modAudit r fun a =>
      { a with phase := .settling, diffs := diffs, orderChanged := changed, code := codeMapFull }
  | some (t, _) =>
    let s := { s with stb := t }
    let s := s.modAudit r fun a => { a with
      phase := .settling, diffs := diffs, orderChanged := changed, code := codeDone
      withdrawn := gone.length, reseek := !gone.isEmpty }
    let s := s.handOver .recount none (some r) gone
    if !diffs.isEmpty || changed then
      s.noticeRecount c b diffs gone.length (le16 (65536 + a.found.length - old.length))
    else s

/-- The Reservation Engine answers a recount's batch (R143). -/
def State.reseekAnswered (s : State) (r replaced shortened : Nat) : State :=
  (s.modAudit r fun a =>
    { a with replaced := replaced, shortened := shortened, reseek := false }).checkRecount r

/-! ### Dockets and recalls (R133, R138, R145, R146) -/

/-- The Audit Unit takes a GLANCE or RECOUNT docket (R133). -/
def State.takeAudit (s : State) (f : Nat) (recount whole : Bool) (bays : List Nat) : State :=
  let c := carouselOperand s.xu f
  match (List.range Config.auditSlots).find? fun r => (s.audit r).isNone with
  | none => s.answer f codeTableFull 0 []
  | some r =>
    if !s.inService c then s.answer f codeNotInService 0 []
    else
      let s := s.setAudit r (some (newAudit recount c s.aud.acceptance f whole bays))
      let s := { s with aud := { s.aud with acceptance := (s.aud.acceptance + 1) % 65536 } }
      (s.askVisit r).1

/-- The audit removal of R37: every waiting visit of a record. -/
def State.removeAuditVisits (s : State) (c r : Nat) : State :=
  s.modCar c fun x => { x with visits := x.visits.filter fun v => v.audit != some r }

/-- A recall of a GLANCE (R138). -/
def State.recallGlance (s : State) (r : Nat) (a : AuditRec) : State :=
  let s := s.modAudit r fun a => { a with recallTaken := true }
  match a.visit with
  | .inProgress _ => s
  | .waiting _ =>
    let s := s.removeAuditVisits a.carousel r
    let s := s.modAudit r fun a => { a.notDone fun _ => true with visit := .none }
    (s.checkGlance r).auditVisitLeft a.carousel none
  | .none => (s.modAudit r fun a => { a.notDone fun _ => true with asking := false }).checkGlance r

/-- A recall of a RECOUNT (R145). -/
def State.recallRecount (s : State) (r : Nat) (a : AuditRec) : State :=
  let s := s.modAudit r fun a => { a with recallTaken := true, tooLate := a.gripped }
  match a.visit with
  | .inProgress _ => s
  | .waiting _ =>
    let s := s.removeAuditVisits a.carousel r
    (s.endRecount r codeRecalled).auditVisitLeft a.carousel none
  | .none => if a.asking then s.endRecount r codeRecalled else s

/-- The Audit Unit takes a CADENCE docket (R146). -/
def State.takeCadence (s : State) (f : Nat) : State :=
  let c := carouselOperand s.xu f
  let x := s.cadenceOf c
  let s := s.modCadence c fun y => { y with interval := s.xu.frameNat f 9 4, elapsed := 0 }
  s.answer f codeDone 0 (le32 x.interval ++ [byte x.cursor, 0] ++ le16 x.overruns)

/-- Whether a cadence timer counts (R146). -/
def State.cadenceCounts (s : State) (c : Nat) : Bool :=
  decide (0 < (s.cadenceOf c).interval) && s.xu.mode == .running && s.inService c

/-- A cadence timer expires (R147): an overrun, or a glance of the cursor carrier. -/
def State.cadenceExpired (s : State) (c : Nat) : State :=
  let s := s.modCadence c fun y => { y with elapsed := 0 }
  let x := s.car c
  let waits := x.visits.any fun v => v.kind == .glance && v.audit.isNone
  if waits || decide (x.auditsWaiting ≥ Config.waitingAudits) then
    s.modCadence c fun y => { y with overruns := holdAt 65535 (y.overruns + 1) }
  else
    let k := (s.cadenceOf c).cursor
    let s := s.modCadence c fun y => { y with cursor := (k + 1) % 20 }
    s.joinVisit c { s.newVisit .glance (some k) with bays := [2 * k, 2 * k + 1] }

end Sys2Proof.Machine
end

