-- ==== Sys2Proof/Machine/Health.lean ====
section
/-! DEFINITION. Carousel health: the fault score, leaving service, home passes and recovery, the report of a homing and
the end of START, and the end of a visit (02_carousel_motion 2.4, 2.9; 09_carousel_health 9.2 to 9.5; R172). -/

namespace Sys2Proof.Machine

/-- A fault with its phase and side (R160); side 0 A, 1 B, 255 none. -/
structure FaultInfo where
  kind : FaultKind
  phase : FaultPhase
  side : Nat
  deriving DecidableEq, Repr, Inhabited

/-- How a visit ends (R41, R59, R139). -/
inductive Finish where
  | clean
  | neither
  | fault (info : FaultInfo)
  deriving DecidableEq, Repr, Inhabited

/-! ### The fault score (R148 to R150) -/

/-- A change of score; a score below the warning level arms the warning (R148). -/
def State.changeScore (s : State) (c n : Nat) : State :=
  s.modCar c fun x => { x with score := n, warnArmed := x.warnArmed || decide (n < s.cfg.warning) }

/-- A score that is set by a sidelining or by SET_SCORE: the warning is armed below the level and disarmed otherwise
(R150, R154). -/
def State.setScore (s : State) (c n : Nat) : State :=
  s.modCar c fun x => { x with score := n, warnArmed := decide (n < s.cfg.warning) }

/-- The offset as a notice gives it (R160). -/
def Car.carrierByte (x : Car) : Byte := byte (x.offset.getD 255)

/-- The fault capture of R149 with the details of R160. -/
def State.noticeFault (s : State) (c : Nat) (i : FaultInfo) (v : VisitKind) : State :=
  let x := s.car c
  s.capture (c - 1) i.kind.code
    [byte i.kind.code, byte i.phase.code, x.carrierByte, byte i.side, byte v.code, byte x.score]

/-- The warning of R150, when the charged score stands at the level or above. -/
def State.warn (s : State) (c : Nat) : State :=
  let x := s.car c
  if x.warnArmed && decide (s.cfg.warning ≤ x.score) then
    (s.capture (c - 1) kindScoreWarning [byte x.score, byte s.cfg.warning]).modCar c fun x => { x with warnArmed := false }
  else s

/-- Whether a fault overflows a score (R149). -/
def Car.overflows (x : Car) : Bool := decide (x.score + Config.faultCharge > Config.scoreMax)

/-- The charge of a fault that does not overflow the score (R149, R150). -/
def State.charge (s : State) (c : Nat) (i : FaultInfo) (v : VisitKind) : State :=
  ((s.changeScore c ((s.car c).score + Config.faultCharge)).noticeFault c i v).warn c

/-! ### Leaving service (R151, R153) -/

/-- A carousel takes a state outside service at rest: drive off, brake held, timers stopped (R22, R151; the off drive is
read as unpowered, log 39). -/
def Car.retire (x : Car) (st : CarState) : Car :=
  { x.driveOff with
    state := st, interrupted := none, sub := none, moveTarget := none, pass := none, powered := false
    idle := none, brake := none, provisional := none }

/-- Steps 3 to 5 of R151: the bulk removal with its reports to the Audit Unit (R134), the marks, the store and the audits.
Also the number of marks withdrawn and of waiting visits removed. The removed audit visits are reported in list order
(log 51). -/
def State.leaveService (s : State) (c : Nat) (cause : ReseekCause) : State × Nat × Nat :=
  let gone := (s.car c).visits.filter fun v => v.kind != .tidy
  let s := s.modCar c fun x => { x with visits := bulkRemoval x.visits }
  let s := gone.foldl (fun s v => s.auditVisitRemoved c v) s
  let r := s.stb.removeMarks (ofCarousel c)
  let s := { s with stb := r.1 }.handOver cause (some c) none r.2
  ((s.pauLost c).auLost c, r.2.length, gone.length)

/-- The SIDELINED capture (R160). -/
def State.noticeSidelined (s : State) (c : Nat) (i : FaultInfo) (marks visits : Nat) : State :=
  let x := s.car c
  s.capture (c - 1) kindSidelined
    ([byte i.kind.code, byte i.phase.code, x.carrierByte, byte i.side, byte x.score] ++ le16 marks ++ [byte255 visits])

/-- A carousel is sidelined (R151), its state already taken. -/
def State.sideline (s : State) (c : Nat) (i : FaultInfo) : State :=
  let r := s.leaveService c .sidelined
  r.1.noticeSidelined c i r.2.1 r.2.2

/-- ENTER_MAINTENANCE takes effect (R153): the answer gives the marks withdrawn and the score; bit 0 is set where the
visit's end would have sidelined the carousel. -/
def State.enterMaintenance (s : State) (c frame : Nat) (sidelining : Option FaultInfo) : State :=
  let s := s.modCar c fun x => { x.retire .maintenance with service := none }
  let r := s.leaveService c .maintenance
  let s := match sidelining with
    | some i => r.1.noticeSidelined c i r.2.1 r.2.2
    | none => r.1
  s.answer frame codeDone (flagBits [sidelining.isSome]) (le16 r.2.1 ++ [byte (s.car c).score])

/-! ### Home passes (R29) -/

/-- A home pass begins, or is held back while a lock cause stands (R158). -/
def Car.beginPass (x : Car) : Car :=
  let p : Pass := ⟨!x.lockCause, x.offset.isNone, 0⟩
  if x.lockCause then { x with pass := some p }
  else { x with
    pass := some p, drive := some ⟨.forward, .creep⟩, powered := true, brakeHeld := false
    watchdog := some ⟨0, Config.homeLimit⟩ }

/-- The carousel enters HOMING (R30). -/
def State.enterHoming (s : State) (c : Nat) : State :=
  s.modCar c fun x => { x with state := .homing }.beginPass

/-- The carousel enters IDLE: drive powered, brake held, the idle timer from 0 (R22, R31). -/
def Car.enterIdle (x : Car) : Car :=
  { x with state := .idle, interrupted := none, sub := none, powered := true, brakeHeld := true, idle := some 0 }

/-- Entry into IDLE with a selection pass after it (R30, R33, R156). -/
def State.idleAndPass (s : State) (c : Nat) : State :=
  let s := s.modCar c Car.enterIdle
  { s with agenda := addOnce c s.agenda }

/-- A change of part mode, with its MODE event (R169). -/
def State.setMode (s : State) (m : PartMode) : State :=
  s.modXu fun x => { x with mode := m, events := { x.events with mode := true } }

/-- The RECALL_TOO_LATE bit of a frame's result (R175). -/
def State.lateBit (s : State) (f : Nat) : Nat := 128 * (s.xu.recalled f).toNat

/-- The last awaited carousel has reported: the mode becomes RUNNING and START returns (R172). -/
def State.endStart (s : State) : State :=
  match s.xu.start with
  | none => s
  | some w =>
    if w.awaited.isEmpty then
      let s := ((s.modXu fun x => { x with start := none }).setMode .running).beltMode false
      s.answer w.frame codeDone (s.lateBit w.frame) (w.outcomes.map byte)
    else s

/-- A carousel reports the end of its homing (R30): 1 HOMED, 2 SIDELINED. -/
def State.reportHoming (s : State) (c outcome : Nat) : State :=
  let s := s.modXu fun x => { x with start := x.start.map fun w =>
    { w with awaited := w.awaited.filter (· != c), outcomes := w.outcomes.set (c - 1) outcome } }
  s.endStart

/-- A held SERVICE of a carousel returns (R154 to R157). -/
def State.answerService (s : State) (c code : Nat) (contents : List Byte) : State :=
  match (s.car c).service with
  | none => s
  | some v =>
    let s := s.modCar c fun x => { x with service := none, stage := none }
    s.answer v.frame code (s.lateBit v.frame) contents

/-- The home pass of HOMING ends clean (R30, R154). -/
def State.homed (s : State) (c : Nat) : State :=
  let s := s.idleAndPass c
  let x := s.car c
  (s.answerService c codeDone [byte (x.offset.getD 255), byte x.score]).reportHoming c 1

/-- A homing fault (R152, R154). -/
def State.homingFault (s : State) (c : Nat) (k : FaultKind) : State :=
  let x := s.car c
  let n := if x.overflows then Config.sidelinedScore else x.score + Config.faultCharge
  let s := (s.setScore c n).modCar c fun x => x.retire .sidelined
  let s := s.sideline c ⟨k, .move, 255⟩
  (s.answerService c codeHomingFailed [byte k.code, byte n]).reportHoming c 2

/-- Recovery begins (R156). -/
def State.beginRecovery (s : State) (c : Nat) : State :=
  s.modCar c fun x => { x with state := .recovering, passCount := 0, stage := some .recovery }.beginPass

/-- The RECOVERY_FAILED capture and result (R156, R157). -/
def State.recoveryFailed (s : State) (c cause phase : Nat) : State :=
  let s := s.modCar c fun x => x.retire .sidelined
  let x := s.car c
  let details := [byte cause, byte phase, byte x.passCount, byte x.score]
  (s.capture (c - 1) kindRecoveryFailed details).answerService c codeRecoveryFailed details

/-- A recovery fault (R157). It asks for no SCORE WARNING where the score of 128 reaches the level while the warning is
armed; the warning is armed or disarmed by the new score, as after a sidelining (R150 leaves it open, log 17). -/
def State.recoveryFault (s : State) (c : Nat) (k : FaultKind) (phase : FaultPhase) : State :=
  (s.setScore c Config.sidelinedScore).recoveryFailed c k.code phase.code

/-- The cause SCORE_REMAINS (R181, R183). -/
def scoreRemains : Nat := 6

/-- A recovery pass ends clean (R156). -/
def State.recoveryPassed (s : State) (c : Nat) : State :=
  let s := s.modCar c fun x => { x with passCount := x.passCount + 1 }
  let s := s.changeScore c ((s.car c).score - Config.faultCharge)
  let x := s.car c
  if x.score = 0 then
    let s := s.idleAndPass c
    let s := s.capture (c - 1) kindRecovered [byte x.passCount, x.carrierByte]
    s.answerService c codeDone [byte x.passCount]
  else if x.passCount < Config.recoveryPasses then s.modCar c Car.beginPass
  else s.recoveryFailed c scoreRemains FaultPhase.move.code

/-- A home pass ends clean (R29, R30, R156). -/
def State.passClean (s : State) (c : Nat) : State :=
  let s := s.modCar c fun x => { x.driveOff with pass := none }
  if (s.car c).state == .homing then s.homed c else s.recoveryPassed c

/-- A home pass fails (R29, R152, R157). -/
def State.passFailed (s : State) (c : Nat) (k : FaultKind) : State :=
  let s := s.modCar c fun x => { x.driveOff with pass := none }
  if (s.car c).state == .homing then s.homingFault c k else s.recoveryFault c k .move

/-! ### The end of a visit (R41) -/

/-- The port at rest; the unrecorded-grip place stays for the tidy visit (R62, R63). -/
def Port.atRest (p : Port) : Port := { Port.reset with unrecorded := p.unrecorded }

/-- Work stops: no command, no timer, drive off, brake held (R28, R62). -/
def Car.stopWork (x : Car) : Car := { x.driveOff with port := x.port.atRest, moveTarget := none }

/-- The tyres of a recount still on the sister bay stay as a recount return (R141). -/
def State.keepReturn (s : State) (c : Nat) (v : Visit) : State :=
  match v.kind, v.audit.bind s.audit with
  | .recount, some a =>
    if 0 < a.moved then s.modCar c fun x => { x with recountReturn := some ⟨a.bay, a.moved⟩ } else s
  | _, _ => s

/-- The demands a lift visit did not lift go on to the carrier's waiting lift visit (R41 step 2). -/
def State.carryOver (s : State) (c : Nat) (v : Visit) : State :=
  v.demands.foldl (fun s d => s.placeDemand c v.created d) s

/-- Each number once. -/
def distinct : List Nat → List Nat
  | [] => []
  | n :: ns => n :: (distinct ns).filter (· != n)

/-- The visit leaves the list, its audit hold released (R41 steps 3 and 4). -/
def State.removeCurrent (s : State) (c : Nat) (v : Visit) : State :=
  let s := match v.audit with
    | some r => s.modStb fun t => t.release c r
    | none => s
  s.modCar c fun x => { x with current := none }

/-- The outcome reaches the visit's owner (R62, R80, R115, R134); `lost`: the fault takes the carousel out of service,
and the owners learn the rest as it leaves. -/
def State.reportVisit (s : State) (c : Nat) (v : Visit) (fault lost : Bool) (e : EndKind) : State :=
  match v.kind with
  | .lift => if lost then s else (distinct (v.demands.map (·.slot))).foldl State.carriedReport s
  | .placement => if lost then s else s.placementEnded c fault
  | .tidy => s
  | _ => s.auditEnded c v e

/-- The next state after a visit of a carousel in service (R41 step 6, R159); in LOCKED the drive is off (R22). -/
def State.afterVisit (s : State) (c : Nat) (lost : Option FaultInfo) : State :=
  match (s.car c).service, lost with
  | some v, _ => if v.kind == .enterMaintenance then s.enterMaintenance c v.frame lost else s
  | none, some i => s.sideline c i
  | none, none =>
    if (s.car c).state == .locked then
      s.modCar c fun x => { x with interrupted := some .idle, sub := none, powered := false }
    else { s with agenda := addOnce c s.agenda }

/-- The score at the end of a visit in service (R41 step 1, R149); also the fault that sidelines the carousel. -/
def State.scoreVisit (s : State) (c : Nat) (v : VisitKind) (e : Finish) : State × Option FaultInfo :=
  match e with
  | .clean => (s.changeScore c ((s.car c).score - 1), none)
  | .neither => (s, none)
  | .fault i =>
    if (s.car c).overflows then
      ((s.setScore c Config.sidelinedScore).modCar c fun x => x.retire .sidelined, some i)
    else (s.charge c i v, none)

/-- The end as the owner learns it. -/
def Finish.endKind (e : Finish) (lost : Bool) : EndKind :=
  match e with
  | .clean => .clean
  | .neither => .neither
  | .fault _ => .fault lost

/-- Whether a visit ends at a fault. -/
def Finish.isFault : Finish → Bool
  | .fault _ => true
  | _ => false

/-- The end of a visit of a carousel in service (R41). `lost`: its fault overflows the score, and the carousel leaves service;
its owner learns the same where a pending ENTER_MAINTENANCE makes that MAINTENANCE (R153, log 54). -/
def State.endService (s : State) (c : Nat) (v : Visit) (e : Finish) : State :=
  let r := s.scoreVisit c v.kind e
  let lost := r.2.isSome
  let s := if e.isFault then r.1.keepReturn c v else r.1
  let s := if v.kind == .lift && !lost then s.carryOver c v else s
  let s := s.removeCurrent c v
  let s := s.reportVisit c v e.isFault lost (e.endKind lost)
  (s.askTidy c).afterVisit c r.2

/-- The end of the tidy visit of a RESTORE (R155, R157). -/
def State.endRestoreTidy (s : State) (c : Nat) (v : Visit) (e : Finish) : State :=
  let s := match e with
    | .clean => s.changeScore c ((s.car c).score - 1)
    | _ => s
  let s := (s.removeCurrent c v).modCar c fun x => { x with powered := false }
  let s := (s.askTidy c).modCar c fun x => { x with sub := none }
  match e with
  | .fault i => s.recoveryFault c i.kind i.phase
  | _ => s.beginRecovery c

/-- The visit in progress ends (R41). -/
def State.endVisit (s : State) (c : Nat) (e : Finish) : State :=
  match (s.car c).current with
  | none => s
  | some v =>
    let s := s.modCar c Car.stopWork
    if (s.car c).stage == some .tidy then s.endRestoreTidy c v e else s.endService c v e

/-- The visit in progress ends at a fault (R62). -/
def State.faultVisit (s : State) (c : Nat) (k : FaultKind) (phase : FaultPhase) (side : Nat) : State :=
  s.endVisit c (.fault ⟨k, phase, side⟩)

end Sys2Proof.Machine
end

