-- ==== Sys2Proof/Machine/Plan.lean ====
section
/-! DEFINITION. Dig plans: the pairing of demands with marked entries, the walk of each bay on a working copy, and the
actions it gives (03_work_at_the_port 3.6, R56 to R59). -/

namespace Sys2Proof.Machine

/-- An entry of a bay as the walk meets it: its depth, and the mark it is to be lifted for if it is a pending lift. -/
structure Item where
  entry : Entry
  depth : Nat
  lift : Option Mark
  deriving DecidableEq, Repr, Inhabited

/-- The working copy of a walk: the sister's stack, the rack, and the bay's actions so far (R57). -/
structure Work where
  sister : List Entry
  rack : List RackEntry
  acts : List Action
  deriving DecidableEq, Repr, Inhabited

/-- A pending lift the plan does not reach (R60). -/
structure Unreached where
  mark : Mark
  bay : Nat
  depth : Nat
  deriving DecidableEq, Repr, Inhabited

/-- Whether a demand is for a mark. -/
def Demand.isFor (d : Demand) (m : Mark) : Bool := d.slot == m.slot && d.line == m.line

/-- Pair a bay's entries from the top down with demands not yet paired (R56): the bay's items, the paired demands with
their bay field set, and the demands left. -/
def pairBay (b : Nat) : Nat → List Entry → List Demand → List Item × List Demand × List Demand
  | _, [], ds => ([], [], ds)
  | i, e :: es, ds =>
    match e.mark.bind fun m => (ds.find? (·.isFor m)).map fun d => (m, d) with
    | some (m, d) =>
      let r := pairBay b (i + 1) es (dropFirst (·.isFor m) ds)
      (⟨e, i, some m⟩ :: r.1, { d with bay := b } :: r.2.1, r.2.2)
    | none =>
      let r := pairBay b (i + 1) es ds
      (⟨e, i, none⟩ :: r.1, r.2.1, r.2.2)

/-- The rack entries whose origin is a bay. -/
def rackOf (b : Nat) (rack : List RackEntry) : List RackEntry := rack.filter fun e => e.origin == b

/-- Whether a sister bay takes a shifted tyre (R58). -/
def sisterTakes (pitch : Nat → Nat) (held : Bool) (stack : List Entry) (height : Nat) (e : Entry) : Bool :=
  !held && stack.all (fun x => x.mark.isNone) && decide (stack.length < Config.bayEntries) &&
    decide (height + pitch e.label.article ≤ Config.bayHeight)

/-- The recorded height of a stack of the working copy. -/
def stackHeight (pitch : Nat → Nat) (l : List Entry) : Nat := (l.map fun e => pitch e.label.article).sum

/-- A SHIFT's destination: the sister bay, else the rack, else none (R58). -/
def shiftTo (sister : Bool) (rack : Nat) : Option ShiftDest :=
  if sister then some .sister else if rack < Config.rackEntries then some .rack else none

/-- The actions a bay needs with its BACKs (R59). -/
def Work.size (w : Work) (b : Nat) : Nat := w.acts.length + (rackOf b w.rack).length

/-- One SHIFT on the working copy. -/
def Work.shift (w : Work) (b : Nat) (e : Entry) : ShiftDest → Work
  | .sister => { w with acts := w.acts ++ [.shift b .sister], sister := e :: w.sister }
  | .rack => { w with acts := w.acts ++ [.shift b .rack], rack := ⟨e, b⟩ :: w.rack }

/-- The walk of a bay (R57 to R59): it ends past the deepest pending lift, or where an entry has no destination or the
bay would need more than 16 actions; then it falls back to its last LIFT, `snap`. It gives the working copy and the
items left in the bay. -/
def walkBay (pitch : Nat → Nat) (held : Bool) (b : Nat) : List Item → Work → Work × List Item → Work × List Item
  | [], w, _ => (w, [])
  | x :: xs, w, snap =>
    if (x :: xs).all fun y => y.lift.isNone then (w, x :: xs)
    else
      match x.lift with
      | some m =>
        let w' := { w with acts := w.acts ++ [.lift m b x.depth false] }
        if w'.size b > Config.bayActions then snap else walkBay pitch held b xs w' (w', xs)
      | none =>
        match shiftTo (sisterTakes pitch held w.sister (stackHeight pitch w.sister) x.entry) w.rack.length with
        | none => snap
        | some d =>
          let w' := w.shift b x.entry d
          if w'.size b > Config.bayActions then snap else walkBay pitch held b xs w' snap

/-- The plan of one bay (R57, R59): its actions with BACKs, its stack after them, the sister's stack, the rack, and the
pending lifts left unreachable. A bay without a pending lift has none. -/
def planBay (pitch : Nat → Nat) (held : Bool) (b : Nat) (items : List Item) (sister : List Entry)
    (rack : List RackEntry) : List Action × List Entry × List Entry × List RackEntry × List Unreached :=
  if items.all fun x => x.lift.isNone then ([], items.map (·.entry), sister, rack, [])
  else
    let w0 : Work := ⟨sister, rack, []⟩
    let r := walkBay pitch held b items w0 (w0, items)
    let backs := rackOf b r.1.rack
    let own := backs.foldl (fun l e => e.entry :: l) (r.2.map (·.entry))
    (r.1.acts ++ backs.map (fun _ => .back b), own, r.1.sister, r.1.rack.filter fun e => !(e.origin == b),
      r.2.filterMap fun x => x.lift.map fun m => ⟨m, b, x.depth⟩)

/-- A dig plan: the visit's demands, its actions, and the lifts left unreachable in the order they are re-sought. -/
structure DigPlan where
  demands : List Demand
  actions : List Action
  unreached : List Unreached
  deriving DecidableEq, Repr, Inhabited

/-- The dig plan of a carrier (R56 to R59); `picking` tells the demands that take part. The unreachable lifts stand bay
A's before bay B's, each bay's from the top down: the order of their re-seeks, which R60 and R99 do not give (log 47). -/
def digPlan (pitch : Nat → Nat) (x : CarStock) (k : Nat) (picking : Nat → Bool) (ds : List Demand) : DigPlan :=
  let a := 2 * k
  let b := 2 * k + 1
  let part := ds.filter fun d => picking d.slot
  let pa := pairBay a 0 (x.bay a).stack part
  let pb := pairBay b 0 (x.bay b).stack pa.2.2
  let planA := planBay pitch (x.bay b).held.isSome a pa.1 (x.bay b).stack x.rack
  let planB := planBay pitch (x.bay a).held.isSome b pb.1 planA.2.1 planA.2.2.2.1
  { demands := ds.filter (fun d => !picking d.slot) ++ pa.2.1 ++ pb.2.1
    actions := planA.1 ++ planB.1
    unreached := planA.2.2.2.2 ++ planB.2.2.2.2 }

end Sys2Proof.Machine
end

