-- ==== Sys2Proof/Machine/Port.lean ====
section
/-! DEFINITION. Work at the port: moves, the port actions one after another, gripper responses, scans, identity slips,
unreachable lifts and gauging (02_carousel_motion 2.3; 03_work_at_the_port). -/

namespace Sys2Proof.Machine

/-! ### Moves (R26 to R28) -/

/-- The direction of the shorter way; forward when both are 10 (R26). -/
def directionTo (o k : Nat) : Dir := if (k + 20 - o) % 20 ≤ (o + 20 - k) % 20 then .forward else .reverse

/-- Watchdog limit of a move: 1.5 times the planned time plus 3.0 s (R27, R28). -/
def moveLimit (steps : Nat) (m : DriveMode) : Nat :=
  (100 + steps * (match m with | .full => 150 | .creep => 400)) * 3 / 2 + 300

/-- The drive mode at a move start (R27). -/
def State.driveMode (s : State) (c : Nat) : DriveMode :=
  if (s.stb.car c).imbalance > s.cfg.imbalanceLimit then .creep else .full

/-- A move to a carrier begins (R27). -/
def State.startMove (s : State) (c k : Nat) : State :=
  let m := s.driveMode c
  s.modCar c fun x =>
    let o := x.offset.getD 0
    { x with
      sub := some .moving, moveTarget := some k, drive := some ⟨directionTo o k, m⟩, powered := true
      brakeHeld := false, watchdog := some ⟨0, moveLimit (stepsBetween o k) m⟩ }

/-! ### Actions -/

/-- The bay an action works on. -/
def Action.bay? : Action → Option Nat
  | .lift _ b _ _ => some b
  | .shift b _ => some b
  | .back b => some b
  | .place (.bay b) => some b
  | .place _ => none
  | .intake => none
  | .gauge b => some b
  | .recountTake b => some b
  | .recountReturn b => some b

/-- The side a fault of an action names (R160, log 18). -/
def Action.side (a : Action) : Nat := (a.bay?.map sideOf).getD 255

/-- The phase of a gripper fault (R62, R140, R141). -/
def Action.phase : Action → FaultPhase
  | .lift _ _ _ _ => .lift
  | .shift _ _ => .shift
  | .back _ => .back
  | .place _ => .place
  | .intake => .intake
  | .gauge _ => .gauge
  | .recountTake _ => .shift
  | .recountReturn _ => .back

/-- Whether an action is a LIFT or SHIFT of a bay. -/
def takesFrom (b : Nat) : Action → Bool
  | .lift _ b' _ _ => b' == b
  | .shift b' _ => b' == b
  | _ => false

/-- Whether an action is a BACK of a bay. -/
def isBack (b : Nat) : Action → Bool
  | .back b' => b' == b
  | _ => false

/-- Step 6 of R51: one BACK for each rack entry whose origin is the bay, and no other BACK, LIFT or SHIFT of it. -/
def keepBacks (rack : List RackEntry) (b : Nat) (l : List Action) : List Action :=
  (rackOf b rack).map (fun _ => Action.back b) ++ l.filter fun a => !takesFrom b a && !isBack b a

/-- A BACK more behind the last action of a bay, for a tyre that goes to the rack unplanned (log 14). -/
def addBack (b : Nat) (l : List Action) : List Action :=
  let own := l.takeWhile fun a => a.bay? == some b
  own ++ .back b :: l.drop own.length

/-- The current action of a carousel. -/
def Car.action (x : Car) : Option Action := x.current.bind fun v => v.actions.head?

/-- The takes made so far in a bay (R61). -/
def Visit.takes (v : Visit) (b : Nat) : Nat := (v.taken.filter (· == b)).length

/-- Take one demand out of the visit's demands: the lift's own (R46, R61, R60). -/
def State.dropDemand (s : State) (c : Nat) (m : Mark) (b : Nat) : State :=
  s.modVisit c fun v => { v with demands := dropFirst (fun d => d.isFor m && d.bay == b) v.demands }

/-- The current action has ended. -/
def State.dropAction (s : State) (c : Nat) : State :=
  (s.modVisit c fun v => { v with actions := v.actions.drop 1, index := v.index + 1 }).modPort c fun p =>
    { p with phase := .ready }

/-- Put another action in the current one's place. -/
def State.replaceAction (s : State) (c : Nat) (a : Action) : State :=
  s.modVisit c fun v => { v with actions := a :: v.actions.drop 1 }

/-- Change the actions behind the current one. -/
def State.modRest (s : State) (c : Nat) (f : List Action → List Action) : State :=
  s.modVisit c fun v => { v with actions := v.actions.take 1 ++ f (v.actions.drop 1) }

/-! ### Unreachable lifts (R60, R99) -/

/-- A re-seek for an unreachable lift (R99): GONE, MOVED with the demand, or KEPT. -/
def State.reseekUnreachable (s : State) (c : Nat) (u : Unreached) (depth : Nat) : State :=
  let p := Spot.bay c u.bay depth
  if !((s.stb.entryAt p).any fun e => e.mark == some u.mark) then s
  else
    match (s.order u.mark.slot).bind fun o => o.line u.mark.line with
    | none => s
    | some l =>
      match s.seek u.mark.slot u.mark.line l (some p) fun x => !(x.c == c && x.b == u.bay) with
      | none => s
      | some x =>
        let s := s.modStb fun t => (t.unmark p).mark x.spot u.mark
        (s.dropDemand c u.mark u.bay).demandFound u.mark.slot u.mark.line x

/-- The LIFTs of a bay in a list that are not void. -/
def unreachedIn (b : Nat) (l : List Action) : List Unreached :=
  l.filterMap fun a => match a with
    | .lift m b' d false => if b' == b then some ⟨m, b, d⟩ else none
    | _ => none

/-- The lifts left in a bay are unreachable (R60); the list is the visit's actions behind what has ended. They are
re-sought from the top down (log 47). -/
def State.unreachable (s : State) (c b : Nat) : State :=
  match (s.car c).current with
  | none => s
  | some v =>
    let us := unreachedIn b v.actions
    let s := s.modVisit c fun v => { v with actions := keepBacks (s.stb.car c).rack b v.actions }
    us.foldl (fun s u => s.reseekUnreachable c u (u.depth - v.takes b)) s

/-! ### Beginning an action -/

/-- The carrier an action needs at the port (R49, R50, R64). -/
def State.carrierNeeded (s : State) (c : Nat) : Action → Option Nat
  | .back b => some (carrierOf (((s.stb.car c).rack.head?.map (·.origin)).getD b))
  | a => a.bay?.map carrierOf

/-- A SHIFT's destination on the stacks as they stand (R48, R58, R61). -/
def State.shiftNow (s : State) (c b : Nat) (e : Entry) : Option ShiftDest :=
  let y := s.stb.bay c (sisterOf b)
  shiftTo (sisterTakes s.stb.pitch y.held.isSome y.stack y.height e) (s.stb.car c).rack.length

/-- A planned SHIFT's destination checked at its begin (R48): the rack stays the rack. -/
def State.shiftDest (s : State) (c b : Nat) (e : Entry) : ShiftDest → Option ShiftDest
  | .sister => s.shiftNow c b e
  | .rack => shiftTo false (s.stb.car c).rack.length

/-- Set a SHIFT's destination; a rack it did not have in its plan adds a BACK (log 14). -/
def State.aimShift (s : State) (c b : Nat) (planned : Option ShiftDest) (d : ShiftDest) : State :=
  let s := s.replaceAction c (.shift b d)
  if d == .rack && planned != some .rack then s.modRest c (addBack b) else s

/-- A LIFT still live behind a void one (R61). -/
def liveLift (t : Stb) (c b takes : Nat) : Action → Bool
  | .lift m b' d false => b' == b && ((t.bay c b).stack[d - takes]?).any fun e => e.mark == some m
  | _ => false

/-- No live LIFT remains in the bay: its LIFTs and SHIFTs are dropped, and the demands of those not voided leave the
visit without a report (R61). -/
def State.dropBay (s : State) (c b : Nat) : State :=
  match (s.car c).current with
  | none => s
  | some v =>
    let us := unreachedIn b v.actions
    let s := s.modVisit c fun v => { v with actions := keepBacks (s.stb.car c).rack b v.actions }
    us.foldl (fun s u => s.dropDemand c u.mark b) s

/-- A void LIFT comes to begin (R61). -/
def State.voidLift (s : State) (c : Nat) (v : Visit) (m : Mark) (b : Nat) (void : Bool) : State :=
  let s := if void then s else s.dropDemand c m b
  let live := (v.actions.drop 1).any (liveLift s.stb c b (v.takes b))
  match live, (s.stb.bay c b).stack.head? with
  | true, some e =>
    match s.shiftNow c b e with
    | some d => s.aimShift c b none d
    | none => (s.dropAction c).unreachable c b
  | _, _ => (s.dropAction c).dropBay c b

/-- The PLACE of a placement visit is about to issue its SET_DOWN on a bay (R77): the answer is whether it still
qualifies, or the visit as slotting has changed it. With no bay left the tyre goes to the infeed, and the verification
GAUGE behind the PLACE goes with its bay: R77 does not name it (log 42). -/
def State.checkPlace (s : State) (c b : Nat) : State × Bool :=
  match (s.stb.car c).gripper with
  | none => (s, true)
  | some h =>
    let l := h.entry.label
    if s.qualifies c b l then (s, true)
    else
      match s.slot c l with
      | some b' =>
        let s := (s.replaceAction c (.place (.bay b'))).modVisit c fun v => { v with target := some (carrierOf b') }
        (s.modRest c fun l => l.map fun a => if a == .gauge b then .gauge b' else a, false)
      | none => (((s.endStore c .noRoom).replaceAction c (.place .infeed)).modRest c fun _ => [], false)

/-- A PLACE onto the infeed waits while a tyre stands there (R50). -/
def State.placeInfeed (s : State) (c : Nat) : State :=
  if s.infeed c then s.modPort c fun p => { p with phase := .waitInfeed, actionLimit := some 0 }
  else s.issueIn c (.setting .normal) (.setDown .infeed)

/-- The first grip of a recount reads the record's recall field (R140). -/
def State.beginRecount (s : State) (c b : Nat) (v : Visit) : State × Bool :=
  match v.audit.bind fun r => (s.audit r).map fun a => (r, a) with
  | none => (s.dropAction c, true)
  | some (r, a) =>
    if !a.gripped && a.recallTaken then (s.modVisit c fun v => { v with actions := [] }, true)
    else ((s.modAudit r fun a => { a with gripped := true }).issueIn c .gripping (.gripStack b), false)

/-- The current action begins; true when it has ended or changed without work, so the next one is looked at. -/
def State.beginAction (s : State) (c : Nat) (v : Visit) : Action → State × Bool
  | .lift m b _ void =>
    if !void && ((s.stb.bay c b).stack.head?).any fun e => e.mark == some m then
      (s.issueIn c .gripping (.gripStack b), false)
    else (s.voidLift c v m b void, true)
  | .shift b dest =>
    match (s.stb.bay c b).stack.head? with
    | none => (s.dropAction c, true)
    | some e =>
      match s.shiftDest c b e dest with
      | some d => ((s.aimShift c b (some dest) d).issueIn c .gripping (.gripStack b), false)
      | none => ((s.dropAction c).unreachable c b, true)
  | .back _ =>
    if (s.stb.car c).rack.isEmpty then (s.dropAction c, true) else (s.issueIn c .gripping .gripRack, false)
  | .place .infeed => (s.placeInfeed c, false)
  | .place (.bay b) =>
    if v.kind == .placement then
      let r := s.checkPlace c b
      if r.2 then (r.1.issueIn c (.setting .normal) (.setDown (.bay b)), false) else (r.1, true)
    else (s.issueIn c (.setting .normal) (.setDown (.bay b)), false)
  | .place d => (s.issueIn c (.setting .normal) (.setDown d), false)
  | .intake => (s.issueIn c .gripping .gripInfeed, false)
  | .gauge _ => (s.modPort c fun p => { p with phase := .gauging, gauge := .settling 0 }, false)
  | .recountTake b => s.beginRecount c b v
  | .recountReturn b => (s.issueIn c .gripping (.gripStack (sisterOf b)), false)

/-- The last action has ended (R62): a fully successful recount is evaluated (R142), and the visit ends cleanly in the
same command, so that the re-seeks of its marks find the holds released (R95, log 44). -/
def State.lastAction (s : State) (c : Nat) (v : Visit) : State :=
  let s := match v.audit.bind fun r => (s.audit r).map fun a => (r, a) with
    | some (r, a) => if a.recount && a.pass1Done then s.evaluate r a else s
    | none => s
  s.endVisit c .clean

/-- The next action begins, after the move it needs (R27, R46 to R50); while a lock cause stands nothing begins (R159).
The number bounds the actions looked at (log 38). -/
def State.runActions : Nat → State → Nat → State
  | 0, s, _ => s
  | n + 1, s, c =>
    let x := s.car c
    match x.current with
    | none => s
    | some v =>
      if x.lockCause then s
      else
        match v.actions.head? with
        | none => s.lastAction c v
        | some a =>
          match s.carrierNeeded c a with
          | some k =>
            if x.offset == some k then
              let r := s.beginAction c v a
              if r.2 then runActions n r.1 c else r.1
            else s.startMove c k
          | none =>
            let r := s.beginAction c v a
            if r.2 then runActions n r.1 c else r.1

/-- Actions one command may look at. -/
def actionTurns : Nat := 80

/-- The visit stands AT_PORT with the brake held, and its next action begins (R22, R40). -/
def State.atPort (s : State) (c : Nat) : State :=
  State.runActions actionTurns (s.modCar c fun x => { x with sub := some .atPort, brakeHeld := true }) c

/-- The current action has ended and the next one begins. -/
def State.advance (s : State) (c : Nat) : State := State.runActions actionTurns (s.dropAction c) c

/-! ### Faults at the port -/

/-- A fault of the current action. -/
def State.faultAction (s : State) (c : Nat) (k : FaultKind) (phase : Action → FaultPhase) : State :=
  match (s.car c).action with
  | some a => s.faultVisit c k (phase a) a.side
  | none => s

/-- The unrecorded-grip place a failed command leaves (R44). -/
def GripCmd.failPlace : GripCmd → Option GripPlace
  | .gripStack b => some (.bay b)
  | .gripRack => some .rack
  | _ => none

/-- A GRIP_FAULT of the current action (R43, R44). -/
def State.gripFaultEnd (s : State) (c : Nat) : State := s.faultAction c .gripFault Action.phase

/-- A GRIP_FAULT by a FAULT response or by the action limit: the place the command named is recorded (R44), and the
Put-away Unit is told of a set-down on the infeed (R67). -/
def State.gripFault (s : State) (c : Nat) (cmd : GripCmd) : State :=
  let s := match cmd.failPlace with
    | some g => s.modPort c fun p => { p with unrecorded := some g }
    | none => s
  let s := if cmd == .setDown .infeed then s.infeedFault c else s
  s.gripFaultEnd c

/-! ### Identity slips (R51, R52) -/

/-- The demands of a bay whose marks were removed leave the visit list (R51 step 3). -/
def State.dropSlipped (s : State) (c b : Nat) (marks : List Mark) : State :=
  let hit := fun (d : Demand) => d.bay == b && marks.any fun m => d.isFor m
  let s := s.modVisit c fun v => { v with demands := v.demands.filter fun d => !hit d }
  s.modCar c fun x => { x with visits := dropDemands hit x.visits }

/-- The action of an IDENTITY_SLIP notice, LIFT 0 or SHIFT 1 (R51, R183). -/
def slipAction : Option Action → Nat
  | some (.lift _ _ _ _) => 0
  | _ => 1

/-- Steps 1 to 4 and 6 of R51: `recorded` is the entry the record shows, `read` what the scanner read. -/
def State.slip (s : State) (c b : Nat) (recorded : Option Label) (read : Option Label) : State :=
  let s := s.modStb fun t => t.suspect c b .identity
  let s := s.capture 13 kindIdentitySlip ([byte c, byte b, byte (slipAction (s.car c).action)] ++
    (recorded.map Label.bytes).getD [0, 0, 0, 0] ++ readBytes read)
  let r := s.stb.removeMarks (s.stb.ofBay c b)
  let s := { s with stb := r.1 }.dropSlipped c b r.2
  let s := s.handOver .identity none none r.2
  s.modRest c (keepBacks (s.stb.car c).rack b)

/-- An identity slip with the tyre in the gripper (R51): it goes back onto its bay. -/
def State.slipTyre (s : State) (c b : Nat) (read : Option Label) : State :=
  let recorded := (s.stb.car c).gripper.map (·.entry.label)
  (s.slip c b recorded read).issueIn c (.setting .slip) (.setDown (.bay b))

/-- An identity slip without a tyre (R52). -/
def State.slipEmpty (s : State) (c b : Nat) : State :=
  let recorded := (s.stb.bay c b).stack.head?.map (·.label)
  (s.slip c b recorded none).advance c

/-! ### Gripper responses (R43, R44) -/

/-- A scan is requested (R45). -/
def State.startScan (s : State) (c : Nat) : State :=
  s.modPort c fun p => { p with phase := .scanning, scan := .first, scanLimit := some 0 }

/-- Whether the current action keeps its takes out of the Stock Table (R139, R141). -/
def Action.unreported : Action → Bool
  | .recountTake _ => true
  | .recountReturn _ => true
  | _ => false

/-- GOT to a GRIP_STACK of a recount or of a return action (R139 to R141). -/
def State.gotUnreported (s : State) (c b : Nat) (a : Action) : State :=
  let s := s.modPort c fun p => { p with unrecorded := some (.bay b) }
  match a with
  | .recountReturn b' => s.issueIn c (.setting .normal) (.setDown (.bay b'))
  | _ => s.startScan c

/-- GOT to a GRIP_STACK of a LIFT or SHIFT (R44, R45). -/
def State.gotStack (s : State) (c b : Nat) : State :=
  let s := s.modStb fun t => t.takeBay c b
  let s := s.modPort c fun p => { p with unrecorded := none }
  (s.modVisit c fun v => { v with taken := v.taken ++ [b] }).startScan c

/-- GOT to a GRIP_RACK (R44, R49): the BACK sets its tyre on the origin bay. -/
def State.gotRack (s : State) (c : Nat) : State :=
  let s := s.modStb fun t => t.takeRack c
  let s := s.modPort c fun p => { p with unrecorded := none }
  match (s.stb.car c).gripper.bind (·.origin.bayNumber) with
  | some b => s.issueIn c (.setting .normal) (.setDown (.bay b))
  | none => s

/-- The response GOT (R44). -/
def State.responseGot (s : State) (c : Nat) (cmd : GripCmd) : State :=
  match cmd, (s.car c).action with
  | .gripStack b, some a => if a.unreported then s.gotUnreported c b a else s.gotStack c b
  | .gripRack, _ => s.gotRack c
  | .gripInfeed, _ => s.startScan c
  | _, _ => s.gripFault c cmd

/-- Pass 1 of a recount has ended or stopped: pass 2 brings the moved tyres back (R140, R141). The moved count a result
without evaluation gives is the one now reached: R144 says so of a pass 1 that stopped or faulted, and the model takes it
where pass 1 had full success and pass 2 faults (log 16). -/
def State.beginPass2 (s : State) (c b r : Nat) (f : AuditRec → AuditRec) : State :=
  let s := s.modAudit r fun a => { f a with phase := .pass2, movedAtEnd := a.moved }
  let n := (s.audit r).elim 0 (·.moved)
  (s.modRest c fun _ => List.replicate n (.recountReturn b)).advance c

/-- The audit record of the visit in progress. -/
def Car.auditSlot (x : Car) : Option Nat := x.current.bind (·.audit)

/-- EMPTY to a pass 1 grip: full success (R140). -/
def State.pass1Empty (s : State) (c b : Nat) : State :=
  match (s.car c).auditSlot with
  | some r => s.beginPass2 c b r fun a => { a with pass1Done := true }
  | none => s.advance c

/-- The response EMPTY (R44, R52, R72, R140, R141). Where it is listed as a GRIP_FAULT no place is recorded; where it is
not listed it is taken as FAULT. -/
def State.responseEmpty (s : State) (c : Nat) (cmd : GripCmd) : State :=
  match cmd, (s.car c).action with
  | .gripStack _, some (.lift _ b _ _) => s.slipEmpty c b
  | .gripStack _, some (.shift b _) => s.slipEmpty c b
  | .gripStack _, some (.recountTake b) => s.pass1Empty c b
  | .gripInfeed, some .intake => (s.intakeEmpty c).advance c
  | .gripStack _, some (.recountReturn _) => s.gripFaultEnd c
  | .gripRack, _ => s.gripFaultEnd c
  | _, _ => s.gripFault c cmd

/-- DONE of a LIFT's set-down on the spur: the hand-off (R12, R46, R47). -/
def State.liftDone (s : State) (c : Nat) (m : Mark) (b : Nat) : State :=
  match (s.stb.car c).gripper with
  | none => s.advance c
  | some h =>
    let l := h.entry.label
    let s := s.modStb fun t => t.leave c
    let lane := ((s.order m.slot).bind (·.lane)).getD 0
    let priority := s.priorityOf m.slot
    let s := s.liftReport m.slot m.line l.week
    let s := s.joinSpur c ⟨m.slot, m.line, l, lane, priority⟩
    (s.dropDemand c m b).advance c

/-- DONE of a PLACE (R50, R64, R72, R77). -/
def State.placeDone (s : State) (c : Nat) (d : Dest) : State :=
  let held := (s.stb.car c).gripper.isSome
  let placement := (s.car c).placementRuns
  let s := if held then s else s.modPort c fun p => { p with unrecorded := none }
  let s := match d with
    | .bay b =>
      let s := s.modStb fun t => t.setDownBay c b
      if placement then s.placed c b else s
    | .rack => s.modStb fun t => t.setDownRack c
    | _ => (s.modStb fun t => t.leave c).infeedDone c
  s.advance c

/-- DONE of a recount's set-down on the sister bay (R140). -/
def State.foundDone (s : State) (c b : Nat) (l : Label) : State :=
  let s := s.modPort c fun p => { p with unrecorded := none }
  let s := match (s.car c).auditSlot with
    | some r => s.modAudit r fun a => { a with found := a.found ++ [l], moved := a.moved + 1 }
    | none => s
  (s.modRest c fun _ => [.recountTake b]).advance c

/-- DONE of a stopped recount's set-down on b (R140). -/
def State.stopDone (s : State) (c b : Nat) (x : StopCause) : State :=
  let s := s.modPort c fun p => { p with unrecorded := none }
  match (s.car c).auditSlot with
  | some r => s.beginPass2 c b r fun a => { a with stop := some x }
  | none => s.advance c

/-- One tyre of a recount return is back (R141). -/
def RecountReturn.less (x : RecountReturn) : Option RecountReturn :=
  if x.count ≤ 1 then none else some { x with count := x.count - 1 }

/-- DONE of a pass 2 action or a return action (R141). -/
def State.returnDone (s : State) (c : Nat) : State :=
  let s := s.modPort c fun p => { p with unrecorded := none }
  let s := match (s.car c).auditSlot with
    | some r => s.modAudit r fun a => { a with moved := a.moved - 1 }
    | none => s.modCar c fun x => { x with recountReturn := x.recountReturn.bind RecountReturn.less }
  s.advance c

/-- A tyre is back on its own bay: the end of a slip's action, or of a SHIFT that lost its destinations (R48, R51). -/
def State.backOnBay (s : State) (c b : Nat) (gaveUp : Bool) : State :=
  let s := s.modStb fun t => t.setDownBay c b
  if gaveUp then
    let s := s.modVisit c fun v => { v with taken := v.taken.erase b }
    State.runActions actionTurns ((s.dropAction c).unreachable c b) c
  else s.advance c

/-- The response DONE to a SET_DOWN (R44). -/
def State.setDownDone (s : State) (c : Nat) (d : Dest) : State :=
  match (s.car c).action, (s.car c).port.phase, d with
  | some _, .setting .slip, .bay b => s.backOnBay c b false
  | some _, .setting .giveUp, .bay b => s.backOnBay c b true
  | some (.lift m b _ _), _, _ => s.liftDone c m b
  | some (.place _), _, d => s.placeDone c d
  | some (.recountTake b), .setting (.found l), _ => s.foundDone c b l
  | some (.recountTake b), .setting (.stop x), _ => s.stopDone c b x
  | some (.recountReturn _), _, _ => s.returnDone c
  | some _, _, .bay b => (s.modStb fun t => t.setDownBay c b).advance c
  | some _, _, _ => (s.modStb fun t => t.setDownRack c).advance c
  | none, _, _ => s

/-- The response DONE (R44). -/
def State.responseDone (s : State) (c : Nat) (cmd : GripCmd) : State :=
  match cmd with
  | .setDown d => s.setDownDone c d
  | _ => s.gripFault c cmd

/-- A gripper response (R43): ignored while no command is outstanding. -/
def State.gripper (s : State) (c : Nat) (f : State → GripCmd → State) : State :=
  match (s.car c).port.cmd with
  | none => s
  | some cmd => f (s.modPort c fun p => { p with cmd := none, actionLimit := none }) cmd

/-- The action limit reaches 20.0 s (R43, R50). -/
def State.actionLimit (s : State) (c : Nat) : State :=
  let p := (s.car c).port
  if p.actionLimit.isNone || (s.car c).lockCause then s
  else
    let s := s.modPort c fun p => { p with cmd := none, actionLimit := none }
    match p.cmd with
    | some cmd => s.gripFault c cmd
    | none => s.gripFaultEnd c

/-! ### Scans (R45) -/

/-- A scanned LIFT asks for spur room (R47). -/
def State.askSpur (s : State) (c : Nat) : State :=
  if (s.spur c).length < Config.spurRecords then s.issueIn c (.setting .normal) (.setDown .spur)
  else s.modPort c fun p => { p with phase := .waitRoom false }

/-- A scanned SHIFT issues its SET_DOWN, its sister bay checked again (R48). While a lock cause stands nothing is issued:
the planned SET_DOWN is kept back and the check made as it is issued, at the release (log 13). -/
def State.setShift (s : State) (c b : Nat) (d : ShiftDest) : State :=
  let sister := sisterOf b
  let clear := (s.stb.bay c sister).stack.all fun e => e.mark.isNone
  if (s.car c).lockCause then s.issueIn c (.setting .normal) (.setDown (if d == .sister then .bay sister else .rack))
  else if d == .sister && clear then s.issueIn c (.setting .normal) (.setDown (.bay sister))
  else if d == .rack then s.issueIn c (.setting .normal) (.setDown .rack)
  else if (s.stb.car c).rack.length < Config.rackEntries then
    (s.aimShift c b (some .sister) .rack).issueIn c (.setting .normal) (.setDown .rack)
  else s.issueIn c (.setting .giveUp) (.setDown (.bay b))

/-- A recount's scan result reaches the Audit Unit (R140). -/
def State.recountScanned (s : State) (c b : Nat) (read : Option Label) : State :=
  match (s.car c).auditSlot.bind s.audit with
  | none => s
  | some a =>
    let why := s.recountRead a read
    let d := match why with
      | .found _ => sisterOf b
      | _ => b
    s.issueIn c (.setting why) (.setDown (.bay d))

/-- The result of a scan: a label, or unreadable (R45). -/
def State.scanned (s : State) (c : Nat) (read : Option Label) : State :=
  let s := s.modPort c fun p => { p with scan := .none, scanLimit := none }
  let matches_ := ((s.stb.car c).gripper).any fun h => some h.entry.label == read
  match (s.car c).action with
  | some (.lift _ b _ _) => if matches_ then s.askSpur c else s.slipTyre c b read
  | some (.shift b d) => if matches_ then s.setShift c b d else s.slipTyre c b read
  | some .intake => (s.intakeScanned c read).advance c
  | some (.recountTake b) => s.recountScanned c b read
  | _ => s

/-- A scanner report (R45): ignored while the scan state is none; a first NO_READ asks for a second scan. -/
def State.scanReport (s : State) (c : Nat) (read : Option Label) : State :=
  match (s.car c).port.scan, read with
  | .none, _ => s
  | .first, none => s.modPort c fun p => { p with scan := .retry, scanLimit := some 0 }
  | _, _ => s.scanned c read

/-- The scan limit reaches 3.0 s (R45). -/
def State.scanExpired (s : State) (c : Nat) : State :=
  if (s.car c).port.scanLimit.isNone || (s.car c).lockCause then s
  else s.faultAction c .scanTimeout fun _ => .scan

/-! ### Gauging (R53 to R55) -/

/-- Whether the height varies (R55). The reading is the sum of the four codes times full scale over 4 times the
resolution; both sides are multiplied by 4 times the resolution, so that no part is lost. -/
def heightVaries (sum4 d : Nat) (y : Bay) : Bool :=
  decide (absDiff (sum4 * 2000) (y.height * 4 * d) > max ((10 + 3 * y.stack.length) * 4 * d) (2 * 2000 * 4))

/-- Whether the load varies (R55); both sides are multiplied by 50 as well, for the 2 %. -/
def loadVaries (sum4 d : Nat) (y : Bay) : Bool :=
  decide (50 * absDiff (sum4 * 6000) (y.load * 4 * d) > max ((500 + y.load) * 4 * d) (50 * 2 * 6000 * 4))

/-- A reading rounded to the nearest whole number, halves up (R55); `full` is 2,000 mm or 6,000 units (R53). -/
def rounded (sum4 full d : Nat) : Nat := (2 * sum4 * full + 4 * d) / (8 * d)

/-- The outcome of two readings (R55). -/
def outcomeOf (height load : Bool) : Outcome55 :=
  match height, load with
  | false, false => .match_
  | true, false => .heightVar
  | false, true => .massVar
  | true, true => .bothVar

/-- Evaluate the eight codes against a bay record (R55): the outcome and the notice bytes of readings and figures. -/
def gaugeOutcome (resolution : Nat) (y : Bay) (codes : List Nat) : Outcome55 × List Byte :=
  let d := 2 ^ resolution
  let hs := (codes.take 4).sum
  let ls := (codes.drop 4).sum
  (outcomeOf (heightVaries hs d y) (loadVaries ls d y),
    readingBytes (rounded hs 2000 d) (rounded ls 6000 d) y.height y.load)

/-- The owner of the visit learns a GAUGE's outcome (R55, R78, R136). -/
def State.gaugeReport (s : State) (c b : Nat) (v : Visit) (r : Outcome55 × List Byte) : State :=
  if v.kind == .placement then s.verified c b r.1 r.2 else s.glanced c b v.audit r.1 r.2

/-- A conversion completes (R54). -/
def State.converted (s : State) (c code : Nat) : State :=
  let x := s.car c
  match x.port.gauge, x.current, x.action with
  | .converting t codes, some v, some (.gauge b) =>
    if code + 1 ≥ 2 ^ s.cfg.resolution then s.faultAction c .gaugeFault fun _ => .gauge
    else
      let codes := codes ++ [code]
      if codes.length < 8 then s.modPort c fun p => { p with gauge := .converting t codes }
      else
        let r := gaugeOutcome s.cfg.resolution (s.stb.bay c b) codes
        ((s.modPort c fun p => { p with gauge := .idle }).gaugeReport c b v r).advance c
  | _, _, _ => s

/-- The settle timer ends (R54). -/
def State.settled (s : State) (c : Nat) : State :=
  match (s.car c).port.gauge with
  | .settling _ => s.modPort c fun p => { p with gauge := .converting 0 [] }
  | _ => s

/-- The completion limit expires (R54). -/
def State.completionExpired (s : State) (c : Nat) : State :=
  match (s.car c).port.gauge with
  | .converting _ _ => s.faultAction c .gaugeFault fun _ => .gauge
  | _ => s

end Sys2Proof.Machine
end

