-- ==== Sys2Proof/Machine/Motion.lean ====
section
/-! DEFINITION. The selection of visits and their start, carrier-index pulses, the move watchdog, the idle timer and the
brake release, and RESTORE's tidy visit (02_carousel_motion 2.2 to 2.8; R139, R155), and how a command is wound up. -/

namespace Sys2Proof.Machine

/-! ### Selection (R38, R39) -/

/-- The bays a waiting visit names (R39). -/
def Visit.namedBays (v : Visit) : List Nat :=
  match v.kind with
  | .lift => v.demands.map (·.bay)
  | .glance => v.bays
  | .recount => v.bays
  | _ => []

/-- Eligible (R39): no bay it names is HELD by an audit record other than its own. -/
def State.eligible (s : State) (c : Nat) (v : Visit) : Bool :=
  v.namedBays.all fun b => (s.stb.bay c b).held.all fun r => some r == v.audit

/-- Considered (R38): every kind in RUNNING, tidy visits only otherwise, in SETUP too (log 11); not a lift visit with the
very demands of one that has just ended with an empty plan (log 10). -/
def State.considered (s : State) (c : Nat) (v : Visit) : Bool :=
  (s.xu.mode == .running || v.kind == .tidy) && !(v.kind == .lift && s.skip.contains (c, v.demands))

/-- The class of a kind (R34). -/
def VisitKind.cls : VisitKind → Nat
  | .tidy => 0
  | .lift => 1
  | .placement => 2
  | .glance => 3
  | .recount => 3

/-- The effective class (R39): a visit that has waited more than 300 s counts as class 1, a tidy visit as class 0. -/
def State.effectiveClass (s : State) (v : Visit) : Nat :=
  if v.kind == .tidy then 0
  else if s.xu.uptime - v.created > Config.agingSeconds then 1 else v.kind.cls

/-- The order priority of a visit (R39 key 2). -/
def State.visitPriority (s : State) (v : Visit) : Nat :=
  if v.kind == .lift then (v.demands.map fun d => s.priorityOf d.slot).foldl min 3 else 3

/-- The rank of a kind in the last tie of R39. -/
def VisitKind.rank : VisitKind → Nat
  | .tidy => 0
  | .lift => 1
  | .placement => 2
  | .glance => 3
  | .recount => 4

/-- The acceptance number of a visit's audit record; a cadence glance comes after every record (R39). -/
def State.visitAcceptance (s : State) (v : Visit) : Nat :=
  (v.audit.bind s.audit).elim 65536 (·.acceptance)

/-- The keys of R39. -/
def State.visitKeys (s : State) (c : Nat) (v : Visit) : List Nat :=
  [s.effectiveClass v, s.visitPriority v,
    v.target.elim 0 (fun k => stepsBetween ((s.car c).offset.getD 0) k), v.created,
    v.target.elim 0 (· + 1), v.kind.cls, v.kind.rank, s.visitAcceptance v]

/-- The visit the selection pass ranks first (R39). -/
def State.choice (s : State) (c : Nat) : Option Visit :=
  firstBy (s.visitKeys c) ((s.car c).visits.filter fun v => s.considered c v && s.eligible c v)

/-! ### Visit start (R40) -/

/-- The PLACE of a tidy visit (R64). -/
def State.tidyPlace (s : State) (c : Nat) : List Action :=
  match (s.stb.car c).gripper with
  | some h =>
    match h.origin with
    | .bay b => [.place (.bay b)]
    | .rack _ => [.place .rack]
    | .infeed => [.place .infeed]
  | none =>
    if s.load c then
      match (s.car c).port.unrecorded with
      | some (.bay b) => [.place (.bay b)]
      | some .rack => [.place .rack]
      | none => [.place .infeed]
    else []

/-- The action list of a tidy visit (R64, R141). R64 gives one BACK for each rack entry of the holdings as they stand when
the visit starts. A gripper entry of origin RACK stands on the rack only after its PLACE, and R64 does not say whether it
gets a BACK in the same visit: the model gives it none, and leaves it to the tidy visit that R63 asks for next (log 53). -/
def State.tidyActions (s : State) (c : Nat) : List Action :=
  s.tidyPlace c ++
    (match (s.car c).recountReturn with
      | some r => List.replicate r.count (.recountReturn r.bay)
      | none => []) ++
    (s.stb.car c).rack.map fun e => .back e.origin

/-- The bays of a list, lowest first: side A before side B (R136). -/
def sideOrder (l : List Nat) : List Nat := rankBy (fun b => [b]) l

/-- The demands and actions a visit starts with, and the lifts its plan does not reach (R40 step 3). -/
def State.planVisit (s : State) (c : Nat) (v : Visit) : DigPlan :=
  match v.kind with
  | .lift => digPlan s.stb.pitch (s.stb.car c) (v.target.getD 0) s.isPicking v.demands
  | .placement => ⟨[], v.actions, []⟩
  | .glance => ⟨[], (sideOrder v.bays).map .gauge, []⟩
  | .recount =>
    let b := v.bays.headD 0
    ⟨[], if s.recountRoom c b then [.recountTake b] else [], []⟩
  | .tidy => ⟨[], s.tidyActions c, []⟩

/-- Steps 1 and 2 of R40: the visit is in progress and takes its audit hold. -/
def State.takeUp (s : State) (c : Nat) (v : Visit) (state : CarState) : State :=
  let s := s.modCar c fun x => { x with
    state := state, visits := x.visits.filter fun w => w.id != v.id
    idle := none, brake := none, provisional := none, current := some v, port := x.port.atRest }
  match v.audit with
  | some r => (s.modStb fun t => t.hold c r v.bays).auditStarted r (v.target.getD 0)
  | none => s

/-- Step 4 of R40: the visit moves to its target or begins its first action. -/
def State.setOut (s : State) (c : Nat) (target : Option Nat) : State :=
  match target with
  | some k => if (s.car c).offset == some k then s.atPort c else s.startMove c k
  | none => s.atPort c

/-- A lift visit ended as it was built: it is left out of this command's later passes, with the demands it had and with
those it carries over (log 10). -/
def State.emptied (s : State) (c : Nat) (v : Visit) : State :=
  { s with skip := s.skip ++ [(c, v.demands), (c, ((s.car c).current.map (·.demands)).getD [])] }

/-- The start of a chosen visit (R40); an empty lift plan and a failed room check end it as it is built (R59, R139),
and a tidy visit without actions ends cleanly at once (R64). The lifts left unreachable are re-sought when both bays are
planned, in the plan's order (R60, R99, log 47). -/
def State.startVisit (s : State) (c : Nat) (v : Visit) (state : CarState) : State :=
  let s := s.takeUp c v state
  let p := s.planVisit c v
  let s := s.modVisit c fun v => { v with demands := p.demands, actions := p.actions }
  let s := p.unreached.foldl (fun s u => s.reseekUnreachable c u u.depth) s
  if p.actions.isEmpty then
    if v.kind == .tidy then s.endVisit c .clean
    else if v.kind == .lift then (s.emptied c v).endVisit c .neither
    else s.endVisit c .neither
  else s.setOut c v.target

/-- A selection pass whose choice starts at once (R38, R40, R32); with nothing chosen the carousel enters IDLE. -/
def State.passNow (s : State) (c : Nat) : State :=
  match s.choice c with
  | some v => s.startVisit c v .visiting
  | none => if (s.car c).state == .idle then s else s.modCar c Car.enterIdle

/-- A selection pass in PARKED: the choice waits for the brake release (R32). -/
def State.passParked (s : State) (c : Nat) : State :=
  match s.choice c with
  | some v => s.modCar c fun x => { x with provisional := some v.id, brake := some 0, brakeHeld := false, powered := true }
  | none => s

/-- A selection pass, where R38 has one run. -/
def State.pass (s : State) (c : Nat) : State :=
  let x := s.car c
  match x.state with
  | .idle => s.passNow c
  | .visiting => if x.current.isNone then s.passNow c else s
  | .parked => if x.brake.isNone then s.passParked c else s
  | _ => s

/-- The end of a brake release (R32). -/
def State.brakeEnd (s : State) (c : Nat) : State :=
  let x := s.car c
  let kept := (x.visits.find? fun v => some v.id == x.provisional).filter fun v => s.considered c v && s.eligible c v
  let s := s.modCar c fun x => { x with brake := none, provisional := none }
  match kept with
  | some v => s.startVisit c v .visiting
  | none => s.passNow c

/-! ### Pulses and the watchdog (R24, R25, R28, R29) -/

/-- The offset one step on (R24). -/
def stepOffset (d : Dir) (o : Nat) : Nat :=
  match d with
  | .forward => (o + 1) % 20
  | .reverse => (o + 19) % 20

/-- A move stopped by a lock: drive off, brake held, the watchdog suspended (R159). -/
def Car.moveStopped (x : Car) : Car := { x.driveOff with watchdog := x.watchdog, powered := false }

/-- A move's POSITION_SLIP or arrival ends it (R25, R28); a gated move stops at the pulse (R159). -/
def State.movePulse (s : State) (c o : Nat) (home : Bool) : State :=
  let s := s.modCar c fun x => { x with offset := some o }
  if home && o != 0 then
    (s.modCar c fun x => { x with offset := some 0 }).faultVisit c .positionSlip .move 255
  else if (s.car c).moveTarget == some o then
    let s := s.modCar c fun x => { x.driveOff with moveTarget := none }
    if (s.car c).lockCause then s.modCar c fun x => { x with sub := some .atPort, powered := false } else s.atPort c
  else if (s.car c).gateStop.isSome then s.modCar c Car.moveStopped
  else s

/-- A pulse of a seek (R29). -/
def State.seekPulse (s : State) (c : Nat) (p : Pass) (home : Bool) : State :=
  if home then
    s.modCar c fun x => { x with
      offset := some 0, pass := some ⟨true, false, 0⟩, watchdog := some ⟨0, Config.homeLimitRolling⟩ }
  else if p.pulses + 1 = Config.carriers then s.passFailed c .positionSlip
  else s.modCar c fun x => { x with pass := some { p with pulses := p.pulses + 1 } }

/-- A pulse of a revolution (R25, R29). -/
def State.revolutionPulse (s : State) (c : Nat) (p : Pass) (o : Nat) (home : Bool) : State :=
  let s := s.modCar c fun x => { x with offset := some o }
  if home != (o == 0) then (s.modCar c fun x => { x with offset := some 0 }).passFailed c .positionSlip
  else if p.pulses + 1 = Config.carriers then s.passClean c
  else s.modCar c fun x => { x with pass := some { p with pulses := p.pulses + 1 } }

/-- A carrier-index pulse with the home level at it (R24, R25): without a running drive it changes nothing. -/
def State.indexPulse (s : State) (c : Nat) (home : Bool) : State :=
  let x := s.car c
  match x.drive, x.pass, x.offset with
  | none, _, _ => s
  | some _, some p, none => s.seekPulse c p home
  | some d, some p, some o => s.revolutionPulse c p (stepOffset d.dir o) home
  | some d, none, some o => s.movePulse c (stepOffset d.dir o) home
  | some _, none, none => s

/-- The watchdog reaches its limit (R28, R29); a lock suspends it. -/
def State.watchdogExpired (s : State) (c : Nat) : State :=
  let x := s.car c
  if x.watchdog.isNone || x.lockCause then s
  else if x.pass.isSome then s.passFailed c .moveTimeout
  else s.faultVisit c .moveTimeout .move 255

/-! ### RESTORE (R155) -/

/-- RESTORE goes to work: its tidy visit, or recovery; it waits while a lock cause stands. -/
def State.startRestore (s : State) (c : Nat) : State :=
  let x := s.car c
  if x.lockCause then s.modCar c fun x => { x with stage := some .waiting }
  else if x.offset.isNone then (if s.holding c then s.joinTidy c else s).beginRecovery c
  else if s.holding c then
    let s := s.joinTidy c
    match (s.car c).visits.find? fun v => v.kind == .tidy with
    | some v =>
      let s := s.modCar c fun x => { x with stage := some .tidy, powered := true }
      s.startVisit c v x.state
    | none => s
  else s.beginRecovery c

/-! ### Winding a command up -/

/-- Selection passes the agenda of a command may hold in all (log 38). -/
def settleTurns : Nat := 1000

/-- A carousel whose pass a command cannot run any more: one leaving VISITING enters IDLE (log 38). -/
def State.restUnpassed (s : State) (c : Nat) : State :=
  if (s.car c).state == .visiting && (s.car c).current.isNone then s.modCar c Car.enterIdle else s

/-- Run the selection passes that a command has called for, in the order they were called for (log 10); at the bound the
carousels still on the agenda come to rest (log 38). -/
def settle : Nat → State → State
  | 0, s => s.agenda.foldl State.restUnpassed s
  | n + 1, s =>
    match s.agenda with
    | [] => s
    | c :: rest => settle n ({ s with agenda := rest }.pass c)

/-- Every configured carousel at rest and the belt empty (R173). A carousel works while it has a visit in progress, in
whatever state, a tidy visit in HALTING included (log 30). -/
def State.drained (s : State) : Bool :=
  s.configuredList.all (fun c => (s.car c).current.isNone) && s.blc.spurs.all List.isEmpty && s.blc.tracking.isEmpty

/-- HALTING is complete: the mode becomes HALTED and the belt stops (R131, R173). -/
def State.haltCheck (s : State) : State :=
  if s.xu.mode == .halting && s.drained then (s.setMode .halted).beltMode true else s

/-- The end of every command: the passes it called for, then the test of HALTING (log 10, log 30). -/
def State.finish (s : State) : State :=
  let s := settle settleTurns s
  { s with agenda := [], skip := [] }.haltCheck

/-- The start of every command: the lines as it finds them (log 1), and no pulse of it yet. -/
def State.fresh (s : State) : State :=
  { s with lines := s.linesNow, levels := s.levels.tail, outs := [], agenda := [], skip := [] }

/-- A command whole (95_what_each_step_holds). -/
def State.run (f : State → State) (s : State) : State := (f s.fresh).finish

end Sys2Proof.Machine
end

