-- ==== Sys2Proof/Machine/Modes.lean ====
section
/-! DEFINITION. Locks and their release, the part mode, START, and SERVICE (R33, R42, R153 to R155, R158, R159, R172,
R173). -/

namespace Sys2Proof.Machine

/-! ### Locks (R33, R158, R159) -/

/-- A visit's move at a lock (R159): for GATE it creeps to the next pulse, for ESTOP it stops at once. -/
def Car.lockMove (x : Car) (gate : Bool) : Car :=
  match x.drive with
  | some d => if gate then { x with drive := some { d with mode := .creep }, gateStop := some 0 } else x.moveStopped
  | none => { x with powered := false }

/-- The port at a lock (R159): the command outstanding is withdrawn, a GAUGE is discarded. -/
def Port.lockPort (p : Port) : Port :=
  let p := { p with gauge := .idle }
  match p.cmd with
  | some cmd => { p with cmd := none, held := some ⟨cmd, true⟩, actionLimit := none }
  | none => p

/-- A visit's work stops (R159). -/
def Car.lockWork (x : Car) (gate : Bool) : Car :=
  match x.current with
  | some _ => let y := x.lockMove gate; { y with port := y.port.lockPort }
  | none => { x with powered := false, brakeHeld := true }

/-- A home pass is abandoned (R158): the drive is off and stays powered, unlike LOCKED's (log 52, log 39). -/
def Car.abandonPass (x : Car) : Car :=
  { x.driveOff with pass := x.pass.map fun p => { p with begun := false } }

/-- The effect of a first lock cause, by the carousel's state (R158). -/
def Car.lock (x : Car) (gate : Bool) : Car :=
  match x.state with
  | .idle => { x.lockWork gate with state := .locked, interrupted := some .idle }
  | .parked => { x.lockWork gate with state := .locked, interrupted := some .parked }
  | .visiting => { x.lockWork gate with state := .locked, interrupted := some .visiting }
  | .homing => x.abandonPass
  | .recovering => x.abandonPass
  | _ => if x.stage == some .tidy then x.lockWork gate else x

/-- GATE is added to the lock causes (R158). -/
def Car.addGate (x : Car) : Car :=
  let y := { x with gateCause := true }
  if x.lockCause then y else y.lock true

/-- ESTOP is added (R158); a drive that still creeps after a GATE lock stops at once (R159). -/
def Car.addEstop (x : Car) : Car :=
  let y := { x with estopCause := true }
  if x.lockCause then (if x.gateStop.isSome then y.moveStopped else y) else y.lock false

/-- A command kept back by a lock is taken up again (R159): one that was issued by the load-present line, the other is
issued now, a SHIFT's set-down with the check of R48 made as it is issued (log 13). A SET_DOWN on the infeed is issued
again by R159 without a look at the infeed present line, which R50 and R72 would have inactive: the model's choice
(log 13). -/
def State.resumeCmd (s : State) (c : Nat) (h : HeldCmd) : State :=
  let s := s.modPort c fun p => { p with held := none }
  if h.issued then
    match h.cmd with
    | .setDown _ => if s.load c then s.issue c h.cmd else s.responseDone c h.cmd
    | _ => if s.load c then s.responseGot c h.cmd else s.issue c h.cmd
  else
    match (s.car c).action, (s.car c).port.phase with
    | some (.shift b d), .setting .normal => s.setShift c b d
    | _, _ => s.issue c h.cmd

/-- The work at the port is taken up again (R159); a PLACE that waits for the infeed looks at its line (R50, log 13). -/
def State.resumePort (s : State) (c : Nat) : State :=
  let p := (s.car c).port
  match p.held, p.phase with
  | some h, _ => s.resumeCmd c h
  | none, .gauging => s.modPort c fun p => { p with gauge := .settling 0 }
  | none, .waitRoom true => s.spurRoom c
  | none, .waitInfeed => if s.infeed c then s else s.issueIn c (.setting .normal) (.setDown .infeed)
  | none, .ready => State.runActions actionTurns s c
  | _, _ => s

/-- A visit's work is taken up again (R159): a move is planned afresh unless the target is at the port. -/
def State.resumeWork (s : State) (c : Nat) : State :=
  let s := s.modCar c fun x => { x with gateStop := none, powered := true }
  let x := s.car c
  if x.sub == some .moving then
    match x.moveTarget with
    | some k =>
      if x.offset == some k then (s.modCar c fun x => { x.driveOff with moveTarget := none }).atPort c
      else s.startMove c k
    | none => s
  else s.resumePort c

/-- The last lock cause is removed in LOCKED (R33). -/
def State.unlock (s : State) (c : Nat) : State :=
  match (s.car c).interrupted with
  | some .parked =>
    let s := s.modCar c fun x => { x with state := .parked, interrupted := none }
    if (s.car c).brake.isSome then
      s.modCar c fun x => { x with brake := some 0, brakeHeld := false, powered := true }
    else { s with agenda := addOnce c s.agenda }
  | some .visiting => (s.modCar c fun x => { x with state := .visiting, interrupted := none }).resumeWork c
  | _ => s.idleAndPass c

/-- What the removal of the last lock cause leads to (R158). -/
def State.released (s : State) (c : Nat) : State :=
  let x := s.car c
  match x.state with
  | .locked => s.unlock c
  | .homing => s.modCar c Car.beginPass
  | .recovering => s.modCar c Car.beginPass
  | _ =>
    match x.stage with
    | some .tidy => s.resumeWork c
    | some .waiting => s.startRestore c
    | _ => s

/-- A lock cause is removed (R158); one that leaves another standing changes only the set. -/
def State.removeCause (s : State) (c : Nat) (f : Car → Car) : State :=
  let was := (s.car c).lockCause
  let s := s.modCar c f
  if was && !(s.car c).lockCause then s.released c else s

/-- The 4.0 s of a gated move pass without a pulse (R159). -/
def State.gateStopped (s : State) (c : Nat) : State :=
  if (s.car c).gateStop.isSome then s.modCar c Car.moveStopped else s

/-! ### Part modes (R42, R172, R173) -/

/-- HALT (R173). -/
def State.halt (s : State) : State := if s.xu.mode == .running then s.setMode .halting else s

/-- A carousel at rest runs a selection pass when RUNNING returns (R42). -/
def State.wakeAll (s : State) : State := s.configuredList.foldl State.wake s

/-- RESUME (R173). -/
def State.resume (s : State) : State :=
  if s.xu.mode == .halting || s.xu.mode == .halted then ((s.setMode .running).beltMode false).wakeAll else s

/-- START is taken (R172): every configured carousel enters HOMING and is awaited. -/
def State.takeStart (s : State) (f : Nat) : State :=
  let s := s.modXu fun x => { x with start := some ⟨f, s.configuredList, List.replicate Config.carousels 0⟩ }
  s.configuredList.foldl State.enterHoming s

/-! ### SERVICE (R153 to R155) -/

/-- A SERVICE is recorded as pending service (R148). -/
def State.holdService (s : State) (c f : Nat) (k : ServiceKind) : State :=
  s.modCar c fun x => { x with service := some ⟨f, k⟩ }

/-- The refusal of a sub-request by the carousel's state (R153). -/
def State.refuseState (s : State) (c f : Nat) : State :=
  s.answer f codeRefusedState 0 [byte (s.car c).state.code]

/-- ENTER_MAINTENANCE (R153). -/
def State.takeEnter (s : State) (c f : Nat) : State :=
  let x := s.car c
  match x.state with
  | .idle => s.enterMaintenance c f none
  | .parked => s.enterMaintenance c f none
  | .sidelined => s.enterMaintenance c f none
  | .visiting => s.holdService c f .enterMaintenance
  | .locked =>
    if x.interrupted == some .visiting then s.holdService c f .enterMaintenance else s.enterMaintenance c f none
  | _ => s.refuseState c f

/-- SET_SCORE (R154). -/
def State.takeSetScore (s : State) (c f : Nat) : State :=
  let x := s.car c
  if x.state == .maintenance then
    let n := s.xu.frameNat f 10 1
    (s.setScore c n).answer f codeDone 0 [byte x.score, byte n]
  else s.refuseState c f

/-- LEAVE_MAINTENANCE (R154). -/
def State.takeLeave (s : State) (c f : Nat) : State :=
  if (s.car c).state == .maintenance then (s.holdService c f .leaveMaintenance).enterHoming c else s.refuseState c f

/-- RESTORE (R155). -/
def State.takeRestore (s : State) (c f : Nat) : State :=
  let x := s.car c
  if x.state == .sidelined || x.state == .maintenance then (s.holdService c f .restore).startRestore c
  else s.refuseState c f

/-- A SERVICE of a carousel that has one pending is BUSY (R153). -/
def State.takeService (s : State) (f : Nat) (k : ServiceKind) : State :=
  let c := carouselOperand s.xu f
  if (s.car c).service.isSome then s.answer f codeBusy 0 []
  else
    match k with
    | .enterMaintenance => s.takeEnter c f
    | .setScore => s.takeSetScore c f
    | .leaveMaintenance => s.takeLeave c f
    | .restore => s.takeRestore c f

end Sys2Proof.Machine
end

