-- ==== Sys2Proof/Machine/Exchange.lean ====
section
/-! DEFINITION. Resets, the registers and host writes to the exchange window: their meanings (10_the_exchange). -/

namespace Sys2Proof.Machine

/-! ### Resets (R174) -/

/-- The frames' memory after a commanded reset: every hand byte OPEN, the other bytes kept (R174). -/
def openHands (m : List Host.Cell) : List Host.Cell := m.filter fun x => x.1 % Config.frameBytes != 0

/-- Every block reset, with the lines as the reset finds them (log 2); what is the model's own stays: the commands that
wait, the levels they find and the uses of the free value (log 29). -/
def State.resetTo (s : State) (cause : ResetCause) (mem : List Host.Cell) : State :=
  { State.afterReset cause mem s.linesNow with levels := s.levels.tail, free := s.free, pending := s.pending }

/-- Power is applied (R174). -/
def execPowerOnReset (s : State) : Host.Outcome State Fault Refusal := .next (s.resetTo .power [])

/-- The commanded reset (R174). -/
def State.commandReset (s : State) : State := s.resetTo .command (openHands s.xu.mem)

/-- RESET written to CONTROL (R169, R174). -/
def execReset (s : State) : Host.Outcome State Fault Refusal := .next s.commandReset

/-! ### Registers (R168, R169, R173) -/

/-- HALT alone written to CONTROL (R173). -/
def execHalt (s : State) : Host.Outcome State Fault Refusal := .next (s.run State.halt)

/-- RESUME alone written to CONTROL (R173). -/
def execResume (s : State) : Host.Outcome State Fault Refusal := .next (s.run State.resume)

/-- A write to EVENTS (R169). -/
def execEventsClear (mask : Word) (s : State) : Host.Outcome State Fault Refusal :=
  .next (s.run fun s => s.modXu fun x => x.clearEvents mask)

/-- A read of RETURN (R168). -/
def execReturnRead (s : State) : Host.Outcome State Fault Refusal := .next (s.run fun s => s.modXu Xu.popReturn)

/-- A write to EVENT ENABLE: one enable for each of the five EVENTS bits (10.6, log 21). -/
def Xu.setEnable (x : Xu) (v : Word) : Xu := { x with enable := v.setWidth 5 }

/-- HALT and RESUME of a CONTROL write without RESET (R169). -/
def State.control (s : State) (v : Word) : State :=
  match v.getLsbD 0, v.getLsbD 1 with
  | true, false => s.halt
  | false, true => s.resume
  | _, _ => s

/-- A write to the register window (10.6, R169): read-only registers and offsets not listed ignore it. -/
def execRegisterWrite (offset : Nat) (v : Word) (s : State) : Host.Outcome State Fault Refusal :=
  if offset = 0x04 then
    if v.getLsbD 2 then .next s.commandReset else .next (s.run fun s => s.control v)
  else if offset = 0x08 then .next (s.run fun s => s.modXu fun x => x.clearEvents v)
  else if offset = 0x0C then .next (s.run fun s => s.modXu fun x => x.setEnable v)
  else .next (s.run id)

/-! ### Host writes to the window (R161 to R165, R170) -/

/-- A post (R163): a stale return entry goes, byte 7 and the result section are cleared, the frame joins the intake
list, the counter rises. -/
def Xu.post (x : Xu) (f : Nat) : Xu :=
  let x := { x with returns := x.returns.filter (· != f) }
  let x := (x.writeFrame f 7 [0]).writeFrame f 104 (List.replicate 24 0)
  let x := x.setHand f .intake
  { x with intake := x.intake ++ [f], posts := holdAt 0xFFFFFFFF (x.posts + 1) }

/-- A host write to a frame in HOST, from byte `i` on (R163). -/
def Xu.storeFrame (x : Xu) (f i : Nat) (bytes : List Byte) : Xu :=
  let x := x.writeFrame f i bytes
  if i = 0 && bytes.head? == some Config.handPosted then x.post f else x

/-- The regions of a TRESPASS notice, in the order R164 lists them. -/
inductive Region where
  | frameInIntake | frameInWork | noticeRecord | statusPage
  deriving DecidableEq, Repr

/-- The code of a region (R183). -/
def Region.code : Region → Nat
  | .frameInIntake => 0
  | .frameInWork => 1
  | .noticeRecord => 2
  | .statusPage => 3

/-- A trespass (R164): the counter, the TRESPASS event, the capture in record 15; a write outside the frames names no
frame (log 18). -/
def Xu.trespass (x : Xu) (offset : Nat) (bytes : List Byte) (region : Region) (frame : Nat) : Xu :=
  let x := { x with
    trespasses := holdAt 0xFFFFFFFF (x.trespasses + 1), events := { x.events with trespass := true } }
  x.capture 15 kindTrespass (le32 offset ++ le16 bytes.length ++ padTo 4 bytes ++ [byte region.code] ++ le16 frame)

/-- The owner of a docket in work takes its recall (R81, R114, R138, R145, R153, R165). -/
def State.ownerRecall (s : State) (f : Nat) : State :=
  let store := s.configuredList.find? fun c => (s.pauOf c).store.any fun x => x.frame == f
  let order := (List.range Config.orderSlots).find? fun i => (s.order i).any fun o => o.frame == f
  let audit := (List.range Config.auditSlots).find? fun r => (s.audit r).any fun a => a.frame == f
  let enter := s.configuredList.find? fun c => (s.car c).service == some ⟨f, .enterMaintenance⟩
  match store, order, audit, enter with
  | some c, _, _, _ => s.recallStore c
  | _, some i, _, _ => s.recallOrder i
  | _, _, some r, _ =>
    match s.audit r with
    | some a => if a.recount then s.recallRecount r a else s.recallGlance r a
    | none => s
  | _, _, _, some c => (s.modCar c fun x => { x with service := none }).answer f codeRecalled 0 []
  | _, _, _, _ => s

/-- A recall request (R164, R165), by the frame's hand state. -/
def State.recallFrame (s : State) (f : Nat) : State :=
  match s.xu.hand f with
  | .host => s
  | .intake =>
    (s.modXu fun x => { x with intake := x.intake.filter (· != f) }).answer f codeRecalled 0 []
  | .work true => s
  | .work false =>
    let s := s.modXu fun x => (x.writeFrame f 0 [Config.handRecall]).setHand f (.work true)
    s.ownerRecall f

/-- A host write that falls in one frame (R163, R164). -/
def State.writeToFrame (s : State) (f i : Nat) (bytes : List Byte) : State :=
  let asks := i = 0 && bytes == [Config.handRecall]
  match s.xu.hand f with
  | .host => s.modXu fun x => x.storeFrame f i bytes
  | .intake =>
    if asks then s.recallFrame f else s.modXu fun x => x.trespass (frameAddr f i) bytes .frameInIntake f
  | .work _ =>
    if asks then s.recallFrame f else s.modXu fun x => x.trespass (frameAddr f i) bytes .frameInWork f

/-- A re-arm (R170): nothing changes in a record already ARMED. -/
def Xu.reArm (x : Xu) (r : Nat) : Xu :=
  let n := x.notices.getD r Notice.reset
  if n.held then { x with notices := x.notices.set r { n with held := false, missed := 0 } } else x

/-- A host write that falls in the notice records (R170). -/
def Xu.writeToNotices (x : Xu) (offset : Nat) (bytes : List Byte) : Xu :=
  let i := offset - Config.noticeBase
  if i % 32 = 0 && bytes == [0] then x.reArm (i / 32) else x.trespass offset bytes .noticeRecord 0

/-- One part of a host write, judged by itself (R161). -/
def State.writePart (s : State) (offset : Nat) (bytes : List Byte) : State :=
  if offset < Config.noticeBase then s.writeToFrame (offset / Config.frameBytes) (offset % Config.frameBytes) bytes
  else if offset < Config.statusBase then s.modXu fun x => x.writeToNotices offset bytes
  else s.modXu fun x => x.trespass offset bytes .statusPage 0

/-- A host write cut into one part for each frame or range it touches, in address order (R161). -/
def writeParts : Nat → List Byte → List (Nat × List Byte)
  | _, [] => []
  | o, b :: bs =>
    match writeParts (o + 1) bs with
    | (p, l) :: rest =>
      if p = o + 1 && regionOf p == regionOf o then (o, b :: l) :: rest else (o, [b]) :: (p, l) :: rest
    | [] => [(o, [b])]

/-- A host write to the exchange window; bytes above it are not in the window (log 6). -/
def State.hostWrite (s : State) (offset : Nat) (bytes : List Byte) : State :=
  (writeParts offset (bytes.take (Config.windowEnd - offset))).foldl (fun s p => s.writePart p.1 p.2) s

/-- A host write to a frame (R163). -/
def execHostFrameWrite (offset : Nat) (bytes : List Byte) (s : State) : Host.Outcome State Fault Refusal :=
  .next (s.run fun s => s.hostWrite offset bytes)

/-- A one-byte write of RECALL to a frame's hand byte (R164, R165). -/
def execRecall (frame : Nat) (s : State) : Host.Outcome State Fault Refusal :=
  .next (s.run fun s => s.hostWrite (frameAddr frame 0) [Config.handRecall])

/-- A host write where the host has no right to write (R164); each part is judged as it falls (log 6). -/
def execTrespass (offset : Nat) (bytes : List Byte) (s : State) : Host.Outcome State Fault Refusal :=
  .next (s.run fun s => s.hostWrite offset bytes)

/-- A one-byte write of ARMED to a notice record's state byte (R170). -/
def execReArm (record : Nat) (s : State) : Host.Outcome State Fault Refusal :=
  .next (s.run fun s => s.hostWrite (Config.noticeBase + 32 * record) [0])

end Sys2Proof.Machine
end

