-- ==== Sys2Proof/Machine/Dockets.lean ====
section
/-! DEFINITION. The dispatcher's taking of a frame and the meaning of each docket kind (R166; 11_docket_reference). -/

namespace Sys2Proof.Machine

/-! ### The dispatcher (R166) -/

/-- The dispatcher takes a frame from the intake list; its docket is in work. -/
def State.takeFrame (s : State) (f : Nat) : State :=
  s.modXu fun x => { x.setHand f (.work false) with intake := x.intake.tail }

/-- The dispatcher takes the frame at the head of the intake list if it is a frame of the kind that passes checks 1 and
2 (log 5), makes checks 3 to 5, and hands it to its owner. -/
def State.dispatch (s : State) (k : DocketKind) (mine : Nat → Bool) (owner : State → Nat → State) : State :=
  match s.xu.intake with
  | [] => s
  | f :: _ =>
    if s.xu.checkOk f && s.xu.kindOf f == some k && mine f then
      let t := s.takeFrame f
      match dispatchRefusal s.xu s.cfg.count f k with
      | some (code, contents) => t.answer f code 0 contents
      | none => owner t f
    else s

/-- A kind with one row of the table. -/
def State.dispatchKind (s : State) (k : DocketKind) (owner : State → Nat → State) : State :=
  s.dispatch k (fun _ => true) owner

/-- A SERVICE row takes its own sub-request, and a sub-request no row owns (log 5). -/
def State.dispatchService (s : State) (k : ServiceKind) : State :=
  s.dispatch .service (fun f => s.xu.frameNat f 9 1 == k.code || decide (3 < s.xu.frameNat f 9 1))
    fun s f => s.takeService f k

/-- The dispatcher takes a frame that fails check 1 or 2 (R166). -/
def State.refuseKind (s : State) : State :=
  match s.xu.intake with
  | [] => s
  | f :: _ =>
    if !s.xu.checkOk f then (s.takeFrame f).answer f codeRefusedCheck 0 []
    else if (s.xu.kindOf f).isNone then (s.takeFrame f).answer f codeRefusedKind 0 []
    else s

/-! ### Owners that answer at once -/

/-- CONFIGURE (R172, R177). -/
def State.takeConfigure (s : State) (f : Nat) : State :=
  let s := { s with cfg := configureOperands s.xu f }
  (s.modXu fun x => { x with configureTaken := true }).answer f codeDone 0 []

/-- ARTICLE (R2, R178). -/
def State.takeArticle (s : State) (f : Nat) : State :=
  let a := (articleOperands s.xu f).1
  let r := (articleOperands s.xu f).2
  let old := s.stb.article a
  let total := s.stb.onHandOf a
  let same := old.pitch == r.pitch && old.mass == r.mass
  if old.defined && !same && decide (0 < total) then s.answer f codeRefusedInStock 0 (le16 total)
  else (s.modStb fun t => t.setArticle a r).answer f codeDone (flagBits [!old.defined]) (le16 total)

/-- The first refusal of a STOCK LOAD by checks 1 to 6 of R18: code, flags, contents. -/
def State.loadRefusal (s : State) (c b : Nat) (new : List Entry) : Option (Nat × Nat × List Byte) :=
  let y := s.stb.bay c b
  let height := s.stb.height new
  let load := s.stb.load new + (s.stb.bay c (sisterOf b)).load
  if !(s.xu.mode == .setup || (s.car c).state == .maintenance) then some (codeRefusedMode, 0, [])
  else if y.held.isSome then some (codeRefusedHeld, 0, [])
  else
    match new.findIdx? fun e => !(s.stb.article e.label.article).defined with
    | some i => some (codeRefusedUndefined, 0, [byte i])
    | none =>
      if 0 < markedIn y.stack then some (codeRefusedReserved, 0, [byte (markedIn y.stack)])
      else if height > Config.bayHeight then some (codeRefusedLimit, 0, le16 height)
      else if load > Config.carrierLoad then some (codeRefusedLimit, 1, le16 load)
      else none

/-- STOCK LOAD (R18, R178). -/
def State.takeStockLoad (s : State) (f : Nat) : State :=
  let c := carouselOperand s.xu f
  let b := s.xu.frameNat f 9 1
  let new := loadEntries s.xu f
  match s.loadRefusal c b new with
  | some (code, flags, contents) => s.answer f code flags contents
  | none =>
    match s.stb.replace c b new with
    | none => s.answer f codeMapFull 0 []
    | some (t, made, ended) =>
      let removed := (s.stb.bay c b).stack.length
      let y := t.bay c b
      { s with stb := t }.answer f codeDone 0 ([byte removed, byte new.length, byte made, byte ended] ++
        le16 y.height ++ le16 y.load ++ le16 (t.car c).imbalance)

/-- LANE CLEAR (R105, R130, R179). -/
def State.takeLaneClear (s : State) (f : Nat) : State :=
  let l := s.xu.frameNat f 8 1
  if l = 0 then (s.answer f codeDone 0 [byte s.blc.chute]).clearChute
  else
    let x := s.lane l
    match x.state with
    | .free => s.answer f codeDone 1 [0]
    | .filling => s.answer f codeLaneBusy 0 ([byte x.count, 0] ++ le32 x.number)
    | _ => ((s.answer f codeDone 0 [byte x.count]).emptyLane l).bind

/-- The reserved and unfilled counts of the lines after admission (R87, R102), by the places chosen for each. -/
def admitLines (lines : List Line) (got : List (List Cand)) : List Line :=
  (lines.zip got).map fun x => { x.1 with reserved := x.2.length, unfilled := x.1.quantity - x.2.length }

/-- The admission sequence after one is given (R100): one more, and past the top of the range, where the spec states no
next one, a free value in the range (log 24). -/
def State.takeSeq (s : State) : State :=
  let n := s.odt.nextSeq
  if n < Config.seqTop then { s with odt := { s.odt with nextSeq := n + 1 } }
  else { s with
    odt := { s.odt with nextSeq := 1 + (Config.seqPastTop s.free).toNat % Config.seqTop }
    free := s.free + 1 }

/-- An admitted order enters LANE_WAIT and the binding is tried (R102). -/
def State.admitted (s : State) (slot : Nat) (o : Order) (t : Stb) (got : List (List Cand)) : State :=
  let s := { s with stb := t }.setOrder slot (some { o with lines := admitLines o.lines got, seq := s.odt.nextSeq })
  (s.takeSeq.joinWaiting slot).bind

/-- The order record an ORDER docket makes (R102). -/
def newOrder (x : Xu) (f : Nat) : Order where
  number := x.frameNat f 8 4
  priority := x.frameNat f 12 1
  partialOk := x.frameNat f 13 1 == 1
  seq := 0
  state := .laneWait
  lane := none
  lines := orderLines x f
  elapsed := 0
  run := .stopped
  timedOut := false
  frame := f

/-- The slot of the order with a number. -/
def State.slotOf (s : State) (number : Nat) : Option Nat :=
  (List.range Config.orderSlots).find? fun i => (s.order i).any fun o => o.number == number

/-- ORDER (R102, R179). -/
def State.takeOrder (s : State) (f : Nat) : State :=
  let o := newOrder s.xu f
  match o.lines.findIdx? fun l => !(s.stb.article l.article).defined with
  | some i => s.answer f codeRefusedUndefined 0 [byte (i + 1)]
  | none =>
    match s.slotOf o.number with
    | some i => s.answer f codeDuplicate 0 [byte i]
    | none =>
      match (List.range Config.orderSlots).find? fun i => (s.order i).isNone with
      | none => s.answer f codeTableFull 0 []
      | some slot =>
        match admissionMatch s.stb s.serviceList slot o.partialOk o.lines with
        | .short n best => s.answer f codeShort 0 [byte n, byte255 best]
        | .filled t got => s.admitted slot o t got

/-! ### Queries (R19, R20, R117, R182) -/

/-- A mark as two bytes: slot, or 0xFF for none; line, or 0 for none. -/
def markBytes : Option Mark → List Byte
  | some m => [byte m.slot, byte m.line]
  | none => [byte 255, 0]

/-- One item of a BAY READ list (R182). -/
def entryItem (e : Entry) (origin : Nat) : List Byte := e.label.bytes ++ markBytes e.mark ++ [byte origin, 0]

/-- Codes of SUSPECT (R182). -/
def suspectCode : Option Suspect → Nat
  | none => 0
  | some .variance => 1
  | some .identity => 2

/-- The reply for a bay (R19, R182): list and summary. -/
def bayReply (x : CarStock) (b : Nat) : List Byte × List Byte :=
  let y := x.bay b
  (y.stack.flatMap fun e => entryItem e 255,
    byte y.stack.length :: le16 y.height ++ le16 y.load ++ [byte (y.held.getD 255), byte (suspectCode y.suspect)] ++
      le16 (x.carrierLoad (carrierOf b)) ++ le16 x.imbalance)

/-- The code of an origin kind (R182). -/
def Origin.code : Origin → Nat
  | .bay _ => 1
  | .rack _ => 2
  | .infeed => 3

/-- The reply for a place number (R19, R182): bays 0 to 39, rack 40, gripper 41. -/
def placeReply (x : CarStock) (place : Nat) : List Byte × List Byte :=
  if place < 40 then bayReply x place
  else if place = 40 then (x.rack.flatMap fun e => entryItem e.entry e.origin, [byte x.rack.length])
  else
    match x.gripper with
    | some h => (entryItem h.entry (h.origin.bayNumber.getD 255), [1, byte h.origin.code])
    | none => ([], [0, 0])

/-- BAY READ (R19): list items beyond the entry count are written as zero. -/
def State.takeBayRead (s : State) (f : Nat) : State :=
  let r := placeReply (s.stb.car (carouselOperand s.xu f)) (s.xu.frameNat f 9 1)
  s.modXu fun x => x.frameReturn f (padTo 96 r.1) codeDone 0 r.2

/-- One item of a STOCK QUERY list (R182). -/
def batchItem (x : Batch) : List Byte := [byte x.key.date.year, byte x.key.date.week] ++ le16 x.onHand ++ le16 x.reserved

/-- STOCK QUERY (R20): at most 16 keys from the starting week index on, oldest first. -/
def State.takeStockQuery (s : State) (f : Nat) : State :=
  let a := s.xu.frameNat f 8 2
  if !(s.stb.article a).defined then s.answer f codeRefusedUndefined 0 []
  else
    let keys := s.stb.keysOf a
    let list := keys.filter fun x => decide (s.xu.frameNat f 10 2 ≤ x.key.week)
    let shown := list.take 16
    s.modXu fun x => x.frameReturn f (shown.flatMap batchItem) codeDone (flagBits [decide (16 < list.length)])
      ([byte shown.length, 0] ++ le16 keys.length ++ le16 (s.stb.onHandOf a) ++ le16 ((keys.map (·.reserved)).sum))

/-- One item of an ORDER QUERY list (R182). -/
def lineItem (l : Line) : List Byte :=
  le16 l.article ++ [byte l.quantity, byte l.reserved, byte l.inTransit, byte l.delivered, byte l.unfilled, byte l.lost]

/-- The code of an order state (R182). -/
def OrderState.code : OrderState → Nat
  | .laneWait => 0
  | .picking => 1
  | .closing => 2
  | .cancelling => 3

/-- ORDER QUERY (R117). -/
def State.takeOrderQuery (s : State) (f : Nat) : State :=
  match (s.slotOf (s.xu.frameNat f 8 4)).bind fun i => (s.order i).map fun o => (i, o) with
  | none => s.answer f codeNotFound 0 []
  | some (i, o) =>
    s.modXu fun x => x.frameReturn f (padTo 64 (o.lines.flatMap lineItem)) codeDone (flagBits [o.timedOut])
      ([byte i, byte o.state.code, byte (o.lane.getD 0), byte o.priority] ++ le32 o.seq ++ le16 (o.elapsed / 100))

/-! ### Meanings -/

/-- The dispatcher takes a CONFIGURE (R172, R177). -/
def execConfigure (s : State) : Host.Outcome State Fault Refusal :=
  .next (s.run fun s => s.dispatchKind .configure State.takeConfigure)

/-- The dispatcher takes a START (R172). -/
def execStart (s : State) : Host.Outcome State Fault Refusal :=
  .next (s.run fun s => s.dispatchKind .start State.takeStart)

/-- The dispatcher takes an ARTICLE (R2). -/
def execArticle (s : State) : Host.Outcome State Fault Refusal :=
  .next (s.run fun s => s.dispatchKind .article State.takeArticle)

/-- The dispatcher takes a STOCK LOAD (R18). -/
def execStockLoad (s : State) : Host.Outcome State Fault Refusal :=
  .next (s.run fun s => s.dispatchKind .stockLoad State.takeStockLoad)

/-- The dispatcher takes a STORE (R66). -/
def execStore (s : State) : Host.Outcome State Fault Refusal :=
  .next (s.run fun s => s.dispatchKind .store State.takeStore)

/-- The dispatcher takes an ORDER (R102). -/
def execOrder (s : State) : Host.Outcome State Fault Refusal :=
  .next (s.run fun s => s.dispatchKind .order State.takeOrder)

/-- The dispatcher takes a LANE CLEAR (R105). -/
def execLaneClear (s : State) : Host.Outcome State Fault Refusal :=
  .next (s.run fun s => s.dispatchKind .laneClear State.takeLaneClear)

/-- The dispatcher takes a GLANCE (R133). -/
def execGlance (s : State) : Host.Outcome State Fault Refusal :=
  .next (s.run fun s => s.dispatchKind .glance fun s f =>
    s.takeAudit f false (s.xu.frameNat f 9 1 == 1) (glanceBays s.xu f))

/-- The dispatcher takes a RECOUNT (R133). -/
def execRecount (s : State) : Host.Outcome State Fault Refusal :=
  .next (s.run fun s => s.dispatchKind .recount fun s f => s.takeAudit f true false [s.xu.frameNat f 9 1])

/-- The dispatcher takes a CADENCE (R146). -/
def execCadence (s : State) : Host.Outcome State Fault Refusal :=
  .next (s.run fun s => s.dispatchKind .cadence State.takeCadence)

/-- The dispatcher takes a SERVICE ENTER_MAINTENANCE (R153). -/
def execEnterMaintenance (s : State) : Host.Outcome State Fault Refusal :=
  .next (s.run fun s => s.dispatchService .enterMaintenance)

/-- The dispatcher takes a SERVICE SET_SCORE (R154). -/
def execSetScore (s : State) : Host.Outcome State Fault Refusal := .next (s.run fun s => s.dispatchService .setScore)

/-- The dispatcher takes a SERVICE LEAVE_MAINTENANCE (R154). -/
def execLeaveMaintenance (s : State) : Host.Outcome State Fault Refusal :=
  .next (s.run fun s => s.dispatchService .leaveMaintenance)

/-- The dispatcher takes a SERVICE RESTORE (R155). -/
def execRestore (s : State) : Host.Outcome State Fault Refusal := .next (s.run fun s => s.dispatchService .restore)

/-- The dispatcher takes a BAY READ (R19). -/
def execBayRead (s : State) : Host.Outcome State Fault Refusal :=
  .next (s.run fun s => s.dispatchKind .bayRead State.takeBayRead)

/-- The dispatcher takes a STOCK QUERY (R20). -/
def execStockQuery (s : State) : Host.Outcome State Fault Refusal :=
  .next (s.run fun s => s.dispatchKind .stockQuery State.takeStockQuery)

/-- The dispatcher takes an ORDER QUERY (R117). -/
def execOrderQuery (s : State) : Host.Outcome State Fault Refusal :=
  .next (s.run fun s => s.dispatchKind .orderQuery State.takeOrderQuery)

/-- The dispatcher takes a frame that fails check 1 or 2 (R166). -/
def execRefusedKind (s : State) : Host.Outcome State Fault Refusal := .next (s.run State.refuseKind)

end Sys2Proof.Machine
end

