-- ==== Sys2Proof/Machine/Machinery.lean ====
section
/-! DEFINITION. Events on the machinery lines and the Reservation Engine's next single re-seek: their meanings
(02_carousel_motion 2.2; 03_work_at_the_port; 04_put_away 4.2; 05_reservation R93; 07_merge; 09_carousel_health 9.6).
A command whose operands name nothing the part has gives no effect of its own (log 34); the lines of an unconfigured
carousel are read by no block but the two lock inputs (R23, R148, log 12). -/

namespace Sys2Proof.Machine

/-! ### Line levels

A command that carries the level of a line sets it as it is taken; load present and spur head at every other command come
with `State.fresh` (log 1). -/

/-- The level of the load-present line of a carousel. -/
def State.setLoad (s : State) (c : Nat) (v : Bool) : State := s.modCarLines c fun l => { l with load := v }

/-- The level of the infeed present line of a carousel. -/
def State.setInfeed (s : State) (c : Nat) (v : Bool) : State := s.modCarLines c fun l => { l with infeed := v }

/-- The levels of the load-present lines of carousels 1 to 12. -/
def State.setLoads (s : State) (levels : List Bool) : State :=
  { s with lines := { s.lines with cars := (s.lines.cars.zip levels).map fun x => { x.1 with load := x.2 } } }

/-- The levels of the spur-head lines of carousels 1 to 12. -/
def State.setHeads (s : State) (levels : List Bool) : State :=
  { s with lines := { s.lines with cars := (s.lines.cars.zip levels).map fun x => { x.1 with spurHead := x.2 } } }

/-- The level of the merge-point clear line. -/
def State.setMergeClear (s : State) (v : Bool) : State := { s with lines := { s.lines with mergeClear := v } }

/-- The level of the emergency stop input. -/
def State.setEstop (s : State) (v : Bool) : State := { s with lines := { s.lines with estop := v } }

/-- The ESTOP event (R169). -/
def State.estopEvent (s : State) : State := s.modXu fun x => { x with events := { x.events with estop := true } }

/-- An event of a carousel: without effect where the part has no such carousel (log 34). -/
def State.onCarousel (s : State) (c : Nat) (f : State → State) : State := if carouselOk c then f s else s

/-- An event that only a configured carousel's controllers read (R23). -/
def State.onConfigured (s : State) (c : Nat) (f : State → State) : State := if s.configured c then f s else s

/-- An event that reports the level of a line: the level stands as it is at any carousel of the part; the event is read
at a configured one (R23, log 1). -/
def State.onLine (s : State) (c : Nat) (level f : State → State) : State :=
  s.onCarousel c fun s => (level s).onConfigured c f

/-! ### Gate and emergency stop (R158, R159) -/

/-- The safety gate opens (R158). -/
def State.openGate (s : State) (c : Nat) : State :=
  (s.modCarLines c fun l => { l with gateOpen := true }).modCar c Car.addGate

/-- The safety gate closes (R158). -/
def State.closeGate (s : State) (c : Nat) (load : Bool) : State :=
  (s.modCarLines c fun l => { l with gateOpen := false, load := load }).removeCause c fun x => { x with gateCause := false }

/-- The emergency stop is asserted (R129, R158). -/
def State.assertEstop (s : State) : State :=
  (allCarousels.foldl (fun s c => s.modCar c Car.addEstop) (s.setEstop true).estopEvent).beltEstop true

/-- The emergency stop is released (R129, R158): every controller removes its cause, then the belt (log 26). -/
def State.releaseEstop (s : State) (loads : List Bool) : State :=
  (allCarousels.foldl (fun s c => s.removeCause c fun x => { x with estopCause := false })
    ((s.setEstop false).setLoads loads).estopEvent).beltEstop false

/-! ### Infeed (R50, R68, R70) -/

/-- A PLACE that waited for the infeed issues its SET_DOWN (R50); in a lock it waits on for the release (log 13). -/
def State.infeedFree (s : State) (c : Nat) : State :=
  if (s.car c).port.phase == .waitInfeed && !(s.car c).lockCause then s.issueIn c (.setting .normal) (.setDown .infeed) else s

/-- A falling edge of infeed present (R50, R70). -/
def State.infeedFallen (s : State) (c : Nat) : State := (s.infeedFall c).infeedFree c

/-! ### Merge point (R121) -/

/-- The level of a spur-head line. -/
def State.setHead (s : State) (c : Nat) (v : Bool) : State := s.modCarLines c fun l => { l with spurHead := v }

/-- Rising edge of merge-point clear (R121): the guard stops, the latch opens, a merge is tried. -/
def State.mergeRise (s : State) (heads : List Bool) : State :=
  (((s.setMergeClear true).setHeads heads).modBlc fun b =>
    { b with guard := none, guardStayed := false, spent := false }).mergeTest

/-- Falling edge of merge-point clear (R121): the line has not stayed active since the merge. -/
def State.mergeFall (s : State) : State := (s.setMergeClear false).modBlc fun b => { b with guardStayed := false }

/-! ### Re-seeks of withdrawn marks (R93) -/

/-- A batch after one more single re-seek. -/
def ReseekBatch.after (b : ReseekBatch) (o : Reseek) : ReseekBatch :=
  { b with
    items := b.items.tail
    replaced := b.replaced + (o == .replaced).toNat
    shortened := b.shortened + (o == .shortened).toNat
    released := b.released + (o == .released).toNat }

/-- The withdrawing block learns the counts of a batch that is done (R93, R143). -/
def State.batchDone (s : State) (b : ReseekBatch) : State :=
  match b.audit with
  | some r => s.reseekAnswered r b.replaced b.shortened
  | none => s

/-- The next single re-seek of the batches handed over, oldest first (R93, log 22). -/
def State.reseekNext (s : State) : State :=
  match s.rse with
  | [] => s
  | b :: rest =>
    match b.items with
    | [] => { s with rse := rest }.batchDone b
    | w :: _ =>
      let r := s.reseekWithdrawnOne b.cause b.leaveOut w
      let b' := b.after r.2
      if b'.items.isEmpty then { r.1 with rse := r.1.rse.tail }.batchDone b'
      else { r.1 with rse := b' :: r.1.rse.tail }

/-! ### Meanings -/

/-- A carrier-index pulse (R24, R25). -/
def execCarrierIndex (c : Nat) (home : Bool) (s : State) : Host.Outcome State Fault Refusal :=
  .next (s.run fun s => s.onConfigured c fun s => s.indexPulse c home)

/-- The safety gate opens (R158). -/
def execGateOpen (c : Nat) (s : State) : Host.Outcome State Fault Refusal :=
  .next (s.run fun s => s.onCarousel c fun s => s.openGate c)

/-- The safety gate closes (R158). -/
def execGateClose (c : Nat) (load : Bool) (s : State) : Host.Outcome State Fault Refusal :=
  .next (s.run fun s => s.onCarousel c fun s => s.closeGate c load)

/-- The emergency stop is asserted (R158). -/
def execEstopAssert (s : State) : Host.Outcome State Fault Refusal := .next (s.run State.assertEstop)

/-- The emergency stop is released (R158). -/
def execEstopRelease (loads : List Bool) (s : State) : Host.Outcome State Fault Refusal :=
  .next (s.run fun s => if levelsOk loads then s.releaseEstop loads else s)

/-- No pulse came within 4.0 s of a gate lock (R159). -/
def execGateStopTimeout (c : Nat) (s : State) : Host.Outcome State Fault Refusal :=
  .next (s.run fun s => s.onConfigured c fun s => s.gateStopped c)

/-- The gripper answers GOT (R44). -/
def execGripperGot (c : Nat) (load : Bool) (s : State) : Host.Outcome State Fault Refusal :=
  .next (s.run fun s => s.onLine c (fun s => s.setLoad c load) fun s => s.gripper c fun s cmd => s.responseGot c cmd)

/-- The gripper answers EMPTY (R44). -/
def execGripperEmpty (c : Nat) (load : Bool) (s : State) : Host.Outcome State Fault Refusal :=
  .next (s.run fun s => s.onLine c (fun s => s.setLoad c load) fun s => s.gripper c fun s cmd => s.responseEmpty c cmd)

/-- The gripper answers DONE (R44). -/
def execGripperDone (c : Nat) (load : Bool) (s : State) : Host.Outcome State Fault Refusal :=
  .next (s.run fun s => s.onLine c (fun s => s.setLoad c load) fun s => s.gripper c fun s cmd => s.responseDone c cmd)

/-- The gripper answers FAULT (R44). -/
def execGripperFault (c : Nat) (load : Bool) (s : State) : Host.Outcome State Fault Refusal :=
  .next (s.run fun s => s.onLine c (fun s => s.setLoad c load) fun s => s.gripper c fun s cmd => s.gripFault c cmd)

/-- The port scanner reports a label (R45). -/
def execScanReport (c art year week : Nat) (s : State) : Host.Outcome State Fault Refusal :=
  .next (s.run fun s => s.onConfigured c fun s =>
    if labelOk art year week then s.scanReport c (some ⟨art, ⟨year, week⟩⟩) else s)

/-- The port scanner reports NO_READ (R45). -/
def execScanNoRead (c : Nat) (s : State) : Host.Outcome State Fault Refusal :=
  .next (s.run fun s => s.onConfigured c fun s => s.scanReport c none)

/-- A gauge conversion completes (R54). -/
def execConversionComplete (c code : Nat) (s : State) : Host.Outcome State Fault Refusal :=
  .next (s.run fun s => s.onConfigured c fun s => if code < 4096 then s.converted c code else s)

/-- Rising edge of infeed present (R68). -/
def execInfeedPresentRise (c : Nat) (s : State) : Host.Outcome State Fault Refusal :=
  .next (s.run fun s => s.onLine c (fun s => s.setInfeed c true) fun s => s.infeedRise c)

/-- Falling edge of infeed present (R50, R70). -/
def execInfeedPresentFall (c : Nat) (s : State) : Host.Outcome State Fault Refusal :=
  .next (s.run fun s => s.onLine c (fun s => s.setInfeed c false) fun s => s.infeedFallen c)

/-- Rising edge of a spur-head line (R120, R121). -/
def execSpurHeadRise (c : Nat) (s : State) : Host.Outcome State Fault Refusal :=
  .next (s.run fun s => s.onLine c (fun s => s.setHead c true) State.mergeTest)

/-- Rising edge of merge-point clear (R121). -/
def execMergePointClearRise (heads : List Bool) (s : State) : Host.Outcome State Fault Refusal :=
  .next (s.run fun s => if levelsOk heads then s.mergeRise heads else s)

/-- Falling edge of merge-point clear (R121). -/
def execMergePointClearFall (s : State) : Host.Outcome State Fault Refusal := .next (s.run State.mergeFall)

/-- The sorter scanner reports a label (R125, R126). -/
def execSorterScan (art year week : Nat) (s : State) : Host.Outcome State Fault Refusal :=
  .next (s.run fun s => if labelOk art year week then s.sorterScan (some ⟨art, ⟨year, week⟩⟩) else s)

/-- The sorter scanner reports NO_READ (R126). -/
def execSorterNoRead (s : State) : Host.Outcome State Fault Refusal := .next (s.run fun s => s.sorterScan none)

/-- The next single re-seek of a withdrawn mark (R93). -/
def execReseekWithdrawn (s : State) : Host.Outcome State Fault Refusal := .next (s.run State.reseekNext)

end Sys2Proof.Machine
end

