-- ==== Sys2Proof/Machine/Timers.lean ====
section
/-! DEFINITION. Timer events: their meanings, each an expiry that takes effect while its timer runs (log 3), and the tick
by which the running timers count when no command waits (log 37). -/

namespace Sys2Proof.Machine

/-! ### Expiries -/

/-- The idle timer reaches 30.0 s (R31): the carousel is PARKED, its drive unpowered. -/
def State.idleExpired (s : State) (c : Nat) : State :=
  let x := s.car c
  if x.state == .idle && x.idle.isSome && !x.lockCause then
    s.modCar c fun x => { x with state := .parked, idle := none, powered := false, brakeHeld := true }
  else s

/-- The brake release reaches 2.0 s (R32). -/
def State.brakeExpired (s : State) (c : Nat) : State :=
  let x := s.car c
  if x.state == .parked && x.brake.isSome && !x.lockCause then s.brakeEnd c else s

/-- The settle timer reaches 0.5 s (R54). -/
def State.settleExpired (s : State) (c : Nat) : State := if (s.car c).lockCause then s else s.settled c

/-- The completion limit reaches 1.0 s (R54). -/
def State.conversionExpired (s : State) (c : Nat) : State := if (s.car c).lockCause then s else s.completionExpired c

/-- The arrival timer reaches the arrival time (R71). -/
def State.arrivalExpired (s : State) (c : Nat) : State :=
  if (s.pauOf c).arrival.isSome then s.returnStore c .infeedTimeout else s

/-- The pick timer of a slot reaches the pick time (R108); outside RUNNING it is suspended. -/
def State.pickTimer (s : State) (slot : Nat) : State :=
  if s.xu.mode == .running && (s.order slot).any fun o => o.run == .running then s.pickExpired slot else s

/-- The merge guard reaches 3.0 s (R121); it is suspended while the belt is STOPPED. -/
def State.guardExpired (s : State) : State :=
  if s.blc.running && s.blc.guard.isSome then
    let stayed := s.blc.guardStayed
    let s := s.modBlc fun b => { b with guard := none, spent := b.spent && !stayed }
    if stayed then s.mergeTest else s
  else s

/-- The merge guard's expiry with the spur-head levels at it (R121). -/
def State.mergeGuard (s : State) (heads : List Bool) : State := (s.setHeads heads).guardExpired

/-- The transit timer of the record at a position reaches 90.0 s (R124); it is suspended while the belt is STOPPED. -/
def State.transitTimer (s : State) (position : Nat) : State :=
  if s.blc.running then
    match s.blc.tracking[position]? with
    | some r => s.transitExpired position r
    | none => s
  else s

/-- A cadence timer reaches its interval (R147). -/
def State.cadenceTimer (s : State) (c : Nat) : State := if s.cadenceCounts c then s.cadenceExpired c else s

/-! ### The tick of an idle step (log 37) -/

/-- A timer one tick on, held at its limit; a stopped timer stays stopped. -/
def tickTo (limit : Nat) (t : Option Nat) : Option Nat := t.map fun n => min limit (n + Config.tick)

/-- The gauge timers one tick on (R54). -/
def Gauge.tick : Gauge → Gauge
  | .idle => .idle
  | .settling t => .settling (min Config.settleLimit (t + Config.tick))
  | .converting t codes => .converting (min Config.completionLimit (t + Config.tick)) codes

/-- The port's timers one tick on (R43, R45, R54). -/
def Port.tick (p : Port) : Port :=
  { p with
    actionLimit := tickTo Config.actionLimit p.actionLimit
    scanLimit := tickTo Config.scanLimit p.scanLimit
    gauge := p.gauge.tick }

/-- The timers of a carousel one tick on: a lock cause suspends all but the stop of a gated move (R33, R45, R159). -/
def Car.tick (x : Car) : Car :=
  if x.lockCause then { x with gateStop := tickTo Config.gateStopLimit x.gateStop }
  else { x with
    idle := tickTo Config.idleLimit x.idle
    brake := tickTo Config.brakeLimit x.brake
    watchdog := x.watchdog.map fun w => { w with elapsed := min w.limit (w.elapsed + Config.tick) }
    port := x.port.tick }

/-- An arrival timer one tick on (R71). -/
def Pau.tick (limit : Nat) (p : Pau) : Pau := { p with arrival := tickTo limit p.arrival }

/-- A pick timer one tick on (R108). -/
def Order.tick (limit : Nat) (o : Order) : Order :=
  if o.run == .running then { o with elapsed := min limit (o.elapsed + Config.tick) } else o

/-- The belt's timers one tick on (R121, R123). -/
def Blc.tick (b : Blc) : Blc :=
  if b.running then { b with
    guard := tickTo Config.guardLimit b.guard
    tracking := b.tracking.map fun r => { r with elapsed := min Config.transitLimit (r.elapsed + Config.tick) } }
  else b

/-- A cadence timer one tick on (R146). -/
def Cadence.tick (x : Cadence) : Cadence := { x with elapsed := min (x.interval * 100) (x.elapsed + Config.tick) }

/-- Every running timer one tick on; nothing expires by it (log 37). -/
def State.tick (s : State) : State :=
  { s with
    cars := s.cars.map Car.tick
    pau := s.pau.map (Pau.tick (s.cfg.arrivalTime * 100))
    odt := { s.odt with
      orders := if s.xu.mode == .running then s.odt.orders.map (·.map (Order.tick (s.cfg.pickTime * 100))) else s.odt.orders }
    blc := s.blc.tick
    aud := { s.aud with
      cadence := (indexFrom 1 s.aud.cadence).map fun x => if s.cadenceCounts x.1 then x.2.tick else x.2 } }

/-! ### Meanings -/

/-- The idle timer expires (R31). -/
def execIdleTimerExpiry (c : Nat) (s : State) : Host.Outcome State Fault Refusal :=
  .next (s.run fun s => s.onConfigured c fun s => s.idleExpired c)

/-- The brake release ends (R32). -/
def execBrakeReleaseEnd (c : Nat) (s : State) : Host.Outcome State Fault Refusal :=
  .next (s.run fun s => s.onConfigured c fun s => s.brakeExpired c)

/-- The watchdog of a move or home pass expires (R28, R29). -/
def execMoveWatchdogExpiry (c : Nat) (s : State) : Host.Outcome State Fault Refusal :=
  .next (s.run fun s => s.onConfigured c fun s => s.watchdogExpired c)

/-- The action limit expires (R43, R50). -/
def execActionLimitExpiry (c : Nat) (load : Bool) (s : State) : Host.Outcome State Fault Refusal :=
  .next (s.run fun s => s.onLine c (fun s => s.setLoad c load) fun s => s.actionLimit c)

/-- The scan limit expires (R45). -/
def execScanLimitExpiry (c : Nat) (s : State) : Host.Outcome State Fault Refusal :=
  .next (s.run fun s => s.onConfigured c fun s => s.scanExpired c)

/-- The gauge settle timer ends (R54). -/
def execSettleTimerEnd (c : Nat) (s : State) : Host.Outcome State Fault Refusal :=
  .next (s.run fun s => s.onConfigured c fun s => s.settleExpired c)

/-- The completion limit expires (R54). -/
def execCompletionLimitExpiry (c : Nat) (s : State) : Host.Outcome State Fault Refusal :=
  .next (s.run fun s => s.onConfigured c fun s => s.conversionExpired c)

/-- The arrival timer expires (R71). -/
def execArrivalTimerExpiry (c : Nat) (s : State) : Host.Outcome State Fault Refusal :=
  .next (s.run fun s => s.onConfigured c fun s => s.arrivalExpired c)

/-- A pick timer expires (R108). -/
def execPickTimerExpiry (slot : Nat) (s : State) : Host.Outcome State Fault Refusal :=
  .next (s.run fun s => s.pickTimer slot)

/-- The merge guard expires (R121). -/
def execMergeGuardExpiry (heads : List Bool) (s : State) : Host.Outcome State Fault Refusal :=
  .next (s.run fun s => if levelsOk heads then s.mergeGuard heads else s)

/-- A transit timer expires (R124). -/
def execTransitTimerExpiry (position : Nat) (s : State) : Host.Outcome State Fault Refusal :=
  .next (s.run fun s => s.transitTimer position)

/-- A cadence timer expires (R147). -/
def execCadenceTimerExpiry (c : Nat) (s : State) : Host.Outcome State Fault Refusal :=
  .next (s.run fun s => s.onConfigured c fun s => s.cadenceTimer c)

/-- A whole second has passed (R171). -/
def execUptimeTick (s : State) : Host.Outcome State Fault Refusal :=
  .next (s.run fun s => s.modXu fun x => { x with uptime := x.uptime + 1 })

end Sys2Proof.Machine
end

