-- ==== Sys2Proof/Machine/Dispatch.lean ====
section
/-! DEFINITION. The meaning of every command, one arm per row of spec/opcode_table.json. -/

namespace Sys2Proof.Machine

/-- The effect of a command on everything but the queue. -/
def exec (i : Instr) (s : State) : Host.Outcome State Fault Refusal :=
  match i with
  | .powerOnReset => Sys2Proof.Machine.execPowerOnReset s
  | .halt => Sys2Proof.Machine.execHalt s
  | .resume => Sys2Proof.Machine.execResume s
  | .reset => Sys2Proof.Machine.execReset s
  | .eventsClear mask => Sys2Proof.Machine.execEventsClear mask s
  | .returnRead => Sys2Proof.Machine.execReturnRead s
  | .registerWrite offset value => Sys2Proof.Machine.execRegisterWrite offset value s
  | .hostFrameWrite offset bytes => Sys2Proof.Machine.execHostFrameWrite offset bytes s
  | .recallRequest frame => Sys2Proof.Machine.execRecall frame s
  | .trespass offset bytes => Sys2Proof.Machine.execTrespass offset bytes s
  | .reArm record => Sys2Proof.Machine.execReArm record s
  | .configure => Sys2Proof.Machine.execConfigure s
  | .start => Sys2Proof.Machine.execStart s
  | .article => Sys2Proof.Machine.execArticle s
  | .stockLoad => Sys2Proof.Machine.execStockLoad s
  | .store => Sys2Proof.Machine.execStore s
  | .order => Sys2Proof.Machine.execOrder s
  | .laneClear => Sys2Proof.Machine.execLaneClear s
  | .glance => Sys2Proof.Machine.execGlance s
  | .recount => Sys2Proof.Machine.execRecount s
  | .cadence => Sys2Proof.Machine.execCadence s
  | .enterMaintenance => Sys2Proof.Machine.execEnterMaintenance s
  | .setScore => Sys2Proof.Machine.execSetScore s
  | .leaveMaintenance => Sys2Proof.Machine.execLeaveMaintenance s
  | .restore => Sys2Proof.Machine.execRestore s
  | .bayRead => Sys2Proof.Machine.execBayRead s
  | .stockQuery => Sys2Proof.Machine.execStockQuery s
  | .orderQuery => Sys2Proof.Machine.execOrderQuery s
  | .carrierIndex c home => Sys2Proof.Machine.execCarrierIndex c home s
  | .gateOpen c => Sys2Proof.Machine.execGateOpen c s
  | .gateClose c load => Sys2Proof.Machine.execGateClose c load s
  | .estopAssert => Sys2Proof.Machine.execEstopAssert s
  | .estopRelease loads => Sys2Proof.Machine.execEstopRelease loads s
  | .gateStopTimeout c => Sys2Proof.Machine.execGateStopTimeout c s
  | .gripperGot c load => Sys2Proof.Machine.execGripperGot c load s
  | .gripperEmpty c load => Sys2Proof.Machine.execGripperEmpty c load s
  | .gripperDone c load => Sys2Proof.Machine.execGripperDone c load s
  | .gripperFault c load => Sys2Proof.Machine.execGripperFault c load s
  | .scanReport c article year week => Sys2Proof.Machine.execScanReport c article year week s
  | .scanNoRead c => Sys2Proof.Machine.execScanNoRead c s
  | .conversionComplete c code => Sys2Proof.Machine.execConversionComplete c code s
  | .infeedPresentRise c => Sys2Proof.Machine.execInfeedPresentRise c s
  | .infeedPresentFall c => Sys2Proof.Machine.execInfeedPresentFall c s
  | .spurHeadRise c => Sys2Proof.Machine.execSpurHeadRise c s
  | .mergePointClearRise heads => Sys2Proof.Machine.execMergePointClearRise heads s
  | .sorterScan article year week => Sys2Proof.Machine.execSorterScan article year week s
  | .sorterNoRead => Sys2Proof.Machine.execSorterNoRead s
  | .idleTimerExpiry c => Sys2Proof.Machine.execIdleTimerExpiry c s
  | .brakeReleaseEnd c => Sys2Proof.Machine.execBrakeReleaseEnd c s
  | .moveWatchdogExpiry c => Sys2Proof.Machine.execMoveWatchdogExpiry c s
  | .actionLimitExpiry c load => Sys2Proof.Machine.execActionLimitExpiry c load s
  | .scanLimitExpiry c => Sys2Proof.Machine.execScanLimitExpiry c s
  | .settleTimerEnd c => Sys2Proof.Machine.execSettleTimerEnd c s
  | .completionLimitExpiry c => Sys2Proof.Machine.execCompletionLimitExpiry c s
  | .arrivalTimerExpiry c => Sys2Proof.Machine.execArrivalTimerExpiry c s
  | .pickTimerExpiry slot => Sys2Proof.Machine.execPickTimerExpiry slot s
  | .mergeGuardExpiry heads => Sys2Proof.Machine.execMergeGuardExpiry heads s
  | .transitTimerExpiry position => Sys2Proof.Machine.execTransitTimerExpiry position s
  | .cadenceTimerExpiry c => Sys2Proof.Machine.execCadenceTimerExpiry c s
  | .uptimeTick => Sys2Proof.Machine.execUptimeTick s
  | .reseekWithdrawn => Sys2Proof.Machine.execReseekWithdrawn s
  | .refusedKind => Sys2Proof.Machine.execRefusedKind s
  | .mergePointClearFall => Sys2Proof.Machine.execMergePointClearFall s

end Sys2Proof.Machine
end

