-- ==== Sys2Proof/Safety.lean ====
section
/-! DEFINITION. What counts as a lawful state: the tables have the sizes the spec gives them, the frames' memory is in
canonical form, the belt keeps its laws, and no work of a command is left over between commands. -/

namespace Sys2Proof.Machine

/-- The Stock Table has 12 carousels of 40 bays (R4). -/
def Stb.shaped (t : Stb) : Prop :=
  t.stock.length = Config.carousels ∧ ∀ x ∈ t.stock, x.bays.length = Config.bays

/-- The sizes of the tables and the bound of the carousel count (R4, R21, R23, R65, R100, R103, R118, R132, R146, R162,
R170). -/
structure State.Shaped (s : State) : Prop where
  hands : s.xu.hands.length = Config.frames
  notices : s.xu.notices.length = 16
  stock : s.stb.shaped
  cars : s.cars.length = Config.carousels
  pau : s.pau.length = Config.carousels
  orders : s.odt.orders.length = Config.orderSlots
  lanes : s.odt.lanes.length = Config.lanes
  spurs : s.blc.spurs.length = Config.carousels
  audits : s.aud.records.length = Config.auditSlots
  cadence : s.aud.cadence.length = Config.carousels
  lines : s.lines.cars.length = Config.carousels
  count : s.cfg.count ≤ Config.carousels

/-- The belt's laws: at most 48 tracking records (R123), a chute count of at most 24 that stops the belt when it is full
(R126, R128), and the stop cause MODE exactly in SETUP and HALTED (R118, R131). -/
structure State.BeltLaw (s : State) : Prop where
  tracking : s.blc.tracking.length ≤ Config.trackingRecords
  chute : s.blc.chute ≤ Config.chuteFull
  full : s.blc.chute = Config.chuteFull → s.blc.chuteCause = true
  mode : s.blc.modeCause = (s.xu.mode == .setup || s.xu.mode == .halted)

/-- HALTING is not complete: while the mode is HALTING, a configured carousel has a visit in progress, or a spur or the
tracking list holds a record (R173). -/
abbrev State.HaltPending (s : State) : Prop := s.xu.mode = .halting → s.drained = false

/-- No work of a command is left over: no selection pass is owed (log 10), and HALTING is not complete (R173). -/
structure State.Rested (s : State) : Prop where
  agenda : s.agenda = []
  skip : s.skip = []
  halting : s.HaltPending

/-- A lawful state. -/
structure State.Lawful (s : State) : Prop where
  shaped : s.Shaped
  mem : Memory.wf s.xu.mem = true
  belt : s.BeltLaw
  rested : s.Rested

/-! ### Conditions under which a command acts -/

/-- Frame `f` is at the head of the intake list, with a right check word and the kind `k` (R166 checks 1 and 2). -/
abbrev State.Offers (s : State) (f : Nat) (k : DocketKind) : Prop :=
  s.xu.intake.head? = some f ∧ s.xu.checkOk f = true ∧ s.xu.kindOf f = some k

/-- Frame `f` is at the head of the intake list and passes all five checks of R166 as a docket of kind `k`. -/
abbrev State.Accepts (s : State) (f : Nat) (k : DocketKind) : Prop :=
  s.Offers f k ∧ dispatchRefusal s.xu s.cfg.count f k = none

/-- The command that takes a docket of a kind; a SERVICE is taken by the row of its sub-request (log 5). -/
def DocketKind.command (k : DocketKind) (sub : ServiceKind) : Instr :=
  match k with
  | .configure => .configure
  | .article => .article
  | .stockLoad => .stockLoad
  | .start => .start
  | .store => .store
  | .order => .order
  | .laneClear => .laneClear
  | .glance => .glance
  | .recount => .recount
  | .cadence => .cadence
  | .service =>
    match sub with
    | .enterMaintenance => .enterMaintenance
    | .setScore => .setScore
    | .leaveMaintenance => .leaveMaintenance
    | .restore => .restore
  | .bayRead => .bayRead
  | .stockQuery => .stockQuery
  | .orderQuery => .orderQuery

end Sys2Proof.Machine

namespace Sys2Proof

/-- A command that is one of the two resets (R169, R174). -/
def Instr.isReset : Instr → Bool
  | .powerOnReset => true
  | .reset => true
  | .registerWrite offset v => offset == 4 && v.getLsbD 2
  | _ => false

end Sys2Proof
end

