-- ==== Sys2Proof/Certificates/Slice0/Obligations.lean ====
section
/-! DEFINITION. The statements for the provers. A command's own effect is stated as the next state it answers, under
hypotheses on the state and the operands alone; `s.fresh` is the state as the command finds it, with the lines' levels of
this moment (the model's `levels`, log 1) and without the pulses of the command before, and `s.HaltPending` says that
HALTING is not complete, which every step keeps (`EveryStepKeepsLawful`). -/

open Sys2Proof Sys2Proof.Machine

/-! ### The machine as a whole -/

/-- Step takes the command at the front of the queue and runs it on the state with the queue's rest. -/
def Obligations.StepRunsFrontCommand : Prop :=
  ∀ (c : Instr) (s : State) (q : List Instr),
    step { s with pending := c :: q } = exec c { s with pending := q }

/-- With an empty queue a step is a tick of 0.05 s (the model's choice, log 37): only running timers count; the timers of
a carousel stand while a lock cause stands (R33), and the belt's while it is STOPPED (R128). -/
def Obligations.IdleStepTicksTimers : Prop :=
  ∀ s : State, s.pending = [] → step s = .next s.tick ∧
    s.tick.xu = s.xu ∧ s.tick.cfg = s.cfg ∧ s.tick.stb = s.stb ∧ s.tick.rse = s.rse ∧ s.tick.lines = s.lines ∧
    s.tick.pending = s.pending ∧ s.tick.outs = s.outs ∧ s.tick.levels = s.levels ∧ s.tick.free = s.free ∧
    (s.blc.running = false → s.tick.blc = s.blc) ∧
    (s.xu.mode ≠ .running → s.tick.odt = s.odt ∧ s.tick.aud.cadence = s.aud.cadence) ∧
    s.tick.aud.records = s.aud.records ∧
    ∀ (c : Nat) (x : Car), s.cars[c]? = some x → ∃ y : Car, s.tick.cars[c]? = some y ∧
      (x.lockCause = true → y.idle = x.idle ∧ y.brake = x.brake ∧ y.watchdog = x.watchdog ∧ y.port = x.port) ∧
      (x.lockCause = false → y.idle = x.idle.map (fun n => min 3000 (n + 5)) ∧
        y.brake = x.brake.map (fun n => min 200 (n + 5)) ∧ y.gateStop = x.gateStop) ∧
      y.state = x.state ∧ y.offset = x.offset ∧ y.visits = x.visits ∧ y.current = x.current ∧ y.score = x.score

/-- The state after a power-on reset is lawful. -/
def Obligations.ResetStateIsLawful : Prop := State.reset.Lawful

/-- Every step keeps a lawful state lawful: table sizes, the canonical frame memory, the belt's laws (at most 48 tracking
records, a chute count that stops the belt at 24, the stop cause MODE exactly in SETUP and HALTED), and no work of a
command left over. -/
def Obligations.EveryStepKeepsLawful : Prop :=
  ∀ s t : State, s.Lawful → step s = .next t → t.Lawful

/-- No command stops the part, and a command's effect leaves the queue alone. (That the two resets keep the queue, log 29,
and that a command whose operands name nothing the part has answers a next state without a refusal, log 34, are the
model's choices.) -/
def Obligations.EveryCommandAnswersAndKeepsQueue : Prop :=
  ∀ (c : Instr) (s : State), ∃ t, exec c s = .next t ∧ t.pending = s.pending

/-- Outside the two resets, only CONFIGURE changes the configuration (R23, R53, R71, R108, R148), only ARTICLE the article
table (R1), only the uptime tick the uptime (R171), and only a write to EVENT ENABLE the enables (R169). -/
def Obligations.OnlyTheirCommandsChangeSettings : Prop :=
  ∀ (c : Instr) (s t : State), exec c s = .next t → c.isReset = false →
    (c ≠ .configure → t.cfg = s.cfg ∧ t.xu.configureTaken = s.xu.configureTaken) ∧
    (c ≠ .article → t.stb.articles = s.stb.articles) ∧
    (c ≠ .uptimeTick → t.xu.uptime = s.xu.uptime) ∧
    ((∀ v, c ≠ .registerWrite 0x0C v) → t.xu.enable = s.xu.enable) ∧
    t.xu.cause = s.xu.cause

/-! ### Resets, registers and the exchange window -/

/-- What both resets leave, block by block (R1, R4, R8, R9, R14, R21, R23, R43, R53, R65, R67, R71, R77, R100, R103, R108,
R118, R132, R146, R148, R162, R169, R170, R171, R174). -/
def ResetValues (t : State) (lines : Lines) : Prop :=
  (t.xu.hands = List.replicate 512 .host ∧ t.xu.intake = [] ∧ t.xu.returns = [] ∧
    t.xu.notices = List.replicate 16 ⟨false, 0, 0, 0, List.replicate 24 0⟩ ∧ t.xu.eventBits = 0 ∧ t.xu.enable = 0 ∧
    t.xu.interrupt = false ∧ t.xu.mode = .setup ∧ t.xu.uptime = 0 ∧ t.xu.posts = 0 ∧ t.xu.trespasses = 0 ∧
    t.xu.configureTaken = false ∧ t.xu.start = none) ∧
  t.cfg = ⟨0, 12, 2, false, 1500, 120, 1800, 96⟩ ∧
  (t.stb.articles = [] ∧ t.stb.stock = List.replicate 12 ⟨List.replicate 40 ⟨[], 0, 0, none, none⟩, [], none⟩ ∧
    t.stb.batch = []) ∧
  t.pau = List.replicate 12 ⟨none, none, false, false, false⟩ ∧
  (t.odt.orders = List.replicate 64 none ∧ t.odt.waiting = [] ∧ t.odt.nextSeq = 1 ∧
    t.odt.lanes = List.replicate 16 ⟨.free, none, 0, 0⟩) ∧
  (t.blc.modeCause = true ∧ t.blc.estopCause = lines.estop ∧ t.blc.chuteCause = false ∧ t.blc.running = false ∧
    t.blc.spent = false ∧ t.blc.guard = none ∧ t.blc.chute = 0 ∧ t.blc.spurs = List.replicate 12 [] ∧
    t.blc.tracking = []) ∧
  (t.aud.records = List.replicate 8 none ∧ t.aud.acceptance = 0 ∧ t.aud.cadence = List.replicate 12 ⟨0, 0, 0, 0⟩) ∧
  (∀ (c : Nat) (l : CarLines), lines.cars[c]? = some l → ∃ x : Car, t.cars[c]? = some x ∧ x.state = .offline ∧
    x.sub = none ∧ x.offset = none ∧ x.drive = none ∧ x.brakeHeld = true ∧ x.visits = [] ∧ x.current = none ∧ x.idle = none ∧ x.brake = none ∧
    x.watchdog = none ∧ x.port.cmd = none ∧ x.port.actionLimit = none ∧ x.port.scan = .none ∧ x.port.gauge = .idle ∧
    x.port.unrecorded = none ∧ x.score = 0 ∧ x.warnArmed = true ∧ x.gateCause = l.gateOpen ∧
    x.estopCause = lines.estop ∧ x.service = none ∧ x.passCount = 0 ∧ x.recountReturn = none) ∧
  t.lines = lines ∧ t.rse = []

/-- Both resets put every block at its value after reset (R174). A power-on reset sets every frame byte to 0 and the cause
POWER; a commanded reset, by the row RESET or a write of RESET to CONTROL (R169), sets every hand byte OPEN, keeps the
other bytes of each frame, and sets the cause COMMAND. Input lines, as the reset finds them, and the queue stay (the
model's choice, log 2 and log 29). -/
def Obligations.ResetsSetValues : Prop :=
  ∀ s : State,
    (∃ t, exec .powerOnReset s = .next t ∧ ResetValues t s.linesNow ∧ t.xu.cause = .power ∧
      (∀ a, Memory.read t.xu.mem a = 0) ∧ t.pending = s.pending) ∧
    (∃ t, exec .reset s = .next t ∧ (∀ v : Word, v.getLsbD 2 = true → exec (.registerWrite 0x04 v) s = .next t) ∧
      ResetValues t s.linesNow ∧ t.xu.cause = .command ∧
      (∀ f i, i < 128 → t.xu.frameByte f i = if i = 0 then 0 else s.xu.frameByte f i) ∧ t.pending = s.pending)

/-- HALT (R173): in RUNNING the mode becomes HALTING and MODE is set; where every configured carousel is at rest and the
belt is empty it goes on to HALTED, and the belt takes the stop cause MODE (at rest is: no visit in progress, the model's
reading beside R42, log 30). In any other mode it is ignored. RESUME (R173): in HALTING and HALTED the mode becomes
RUNNING, MODE is set and the belt's stop cause MODE is removed; with empty spurs and no waiting visits nothing else
changes. In SETUP and RUNNING it is ignored. -/
def Obligations.HaltAndResumeChangeMode : Prop :=
  ∀ s : State,
    ((s.xu.mode = .running → s.drained = false → exec .halt s = .next { s.fresh with
        xu := { s.xu with mode := .halting, events := { s.xu.events with mode := true } } }) ∧
      (s.xu.mode = .running → s.drained = true → exec .halt s = .next { s.fresh with
        xu := { s.xu with mode := .halted, events := { s.xu.events with mode := true } }
        blc := { s.blc with modeCause := true } }) ∧
      (s.xu.mode ≠ .running → s.HaltPending → exec .halt s = .next s.fresh)) ∧
    ((s.xu.mode = .halting ∨ s.xu.mode = .halted → ∃ t, exec .resume s = .next t ∧ t.xu.mode = .running ∧
        t.xu.events.mode = true ∧ t.blc.modeCause = false) ∧
      (s.xu.mode = .halting ∨ s.xu.mode = .halted → (∀ l ∈ s.blc.spurs, l = []) → (∀ x ∈ s.cars, x.visits = []) →
        exec .resume s = .next { s.fresh with
          xu := { s.xu with mode := .running, events := { s.xu.events with mode := true } }
          blc := { s.blc with modeCause := false } }) ∧
      (s.xu.mode = .setup ∨ s.xu.mode = .running → exec .resume s = .next s.fresh))

/-- Accesses to the registers (R168, R169). A write to CONTROL without RESET: HALT alone and RESUME alone act as those
commands, both or none do nothing. A write to EVENTS: a 1 clears NOTICE, TRESPASS, MODE or ESTOP and a 0 leaves it, while
RETURNED stands as long as the return list is not empty. EVENT ENABLE keeps five enables and no other bit of the word
written (the model's choice, log 21); other offsets ignore writes. A read of RETURN pops the oldest entry and gives its
frame number and the number left behind it, or 0xFFFF and 0 with nothing changed. (The value read is kept in the model's
own `readData`, log 25.) What the host reads (10.6, R161, R171): IDENT, EVENTS, EVENT ENABLE and RETURN read their values
and every other offset 0, and so do the bits of EVENTS and EVENT ENABLE past the fifth (log 21); the interrupt is
requested exactly while some bit of EVENTS is set with its enable. The exchange window reads the frames' bytes, the
sixteen notice records, and on the status page the part mode, the reset cause, the uptime (its low 32 bits, log 4), the
two counters, one entry for each carousel and each lane, the chute, the belt and the tracking count, and 0 elsewhere. -/
def Obligations.RegisterAccesses : Prop :=
  ∀ (s : State) (v : Word), s.HaltPending →
    (v.getLsbD 2 = false →
      (v.getLsbD 0 = true → v.getLsbD 1 = false → exec (.registerWrite 0x04 v) s = exec .halt s) ∧
      (v.getLsbD 0 = false → v.getLsbD 1 = true → exec (.registerWrite 0x04 v) s = exec .resume s) ∧
      (v.getLsbD 0 = v.getLsbD 1 → exec (.registerWrite 0x04 v) s = .next s.fresh)) ∧
    (∀ c ∈ [Instr.eventsClear v, Instr.registerWrite 0x08 v], exec c s = .next { s.fresh with
      xu := { s.xu with events := {
        notice := s.xu.events.notice && !v.getLsbD 1
        trespass := s.xu.events.trespass && !v.getLsbD 2
        mode := s.xu.events.mode && !v.getLsbD 3
        estop := s.xu.events.estop && !v.getLsbD 4 } } }) ∧
    exec (.registerWrite 0x0C v) s = .next { s.fresh with xu := { s.xu with enable := v.setWidth 5 } } ∧
    (∀ o, o ≠ 0x04 → o ≠ 0x08 → o ≠ 0x0C → exec (.registerWrite o v) s = .next s.fresh) ∧
    s.xu.eventBits % 2 = (!s.xu.returns.isEmpty).toNat ∧
    (s.xu.returns = [] → exec .returnRead s = .next { s.fresh with xu := { s.xu with readData := 0xFFFF } }) ∧
    (∀ f rest, s.xu.returns = f :: rest → exec .returnRead s = .next { s.fresh with
      xu := { s.xu with readData := BitVec.ofNat 32 (f + 65536 * rest.length), returns := rest } }) ∧
    (s.xu.registerView 0x00 = 0x00012440 ∧ s.xu.registerView 0x04 = 0 ∧
      (∀ i, i < 32 → (s.xu.registerView 0x08).getLsbD i = [!s.xu.returns.isEmpty, s.xu.events.notice,
        s.xu.events.trespass, s.xu.events.mode, s.xu.events.estop].getD i false) ∧
      (∀ i, (s.xu.registerView 0x0C).getLsbD i = s.xu.enable.getLsbD i) ∧
      (s.xu.returns = [] → s.xu.registerView 0x10 = 0xFFFF) ∧
      (∀ f rest, s.xu.returns = f :: rest → s.xu.registerView 0x10 = BitVec.ofNat 32 (f + 65536 * rest.length)) ∧
      (∀ o, o ≠ 0x00 → o ≠ 0x08 → o ≠ 0x0C → o ≠ 0x10 → s.xu.registerView o = 0) ∧
      (s.xu.interrupt = true ↔
        ∃ i, i < 5 ∧ (s.xu.registerView 0x08).getLsbD i = true ∧ s.xu.enable.getLsbD i = true)) ∧
    (let shows := fun (a : Nat) (bytes : List Byte) => ∀ i, i < bytes.length → s.windowByte (a + i) = bytes.getD i 0
     (∀ a, a < 0x10000 → s.windowByte a = Memory.read s.xu.mem a) ∧
     (∀ r n, r < 16 → s.xu.notices[r]? = some n → shows (0x10000 + r * 32) ([if n.held then 1 else 0, byte n.kind,
       byte n.missed, 0] ++ le32 n.stamp ++ (n.details ++ List.replicate 24 0).take 24)) ∧
     shows 0x10200 [match s.xu.mode with | .setup => 0 | .running => 1 | .halting => 2 | .halted => 3,
       match s.xu.cause with | .power => 1 | .command => 2, 0, 0] ∧
     shows 0x10204 (le32 s.xu.uptime) ∧ shows 0x10208 (le32 s.xu.posts) ∧ shows 0x1020C (le32 s.xu.trespasses) ∧
     (∀ c, 1 ≤ c → c ≤ 12 →
       let x := s.car c
       shows (0x10210 + (c - 1) * 16) ([match x.state with
           | .offline => 0 | .homing => 1 | .idle => 2 | .parked => 3 | .visiting => 4 | .locked => 5 | .sidelined => 6
           | .recovering => 7 | .maintenance => 8,
         match x.offset with | some o => byte o | none => 255, byte x.score, byte (s.stb.car c).rack.length,
         if (s.stb.car c).gripper = none then 0 else 1,
         byte (if x.current = none then x.visits.length else x.visits.length + 1)] ++
         le16 (s.stb.car c).imbalance ++ le16 (s.cadenceOf c).overruns ++ List.replicate 6 0)) ∧
     (∀ l, 1 ≤ l → l ≤ 16 → shows (0x102D0 + (l - 1) * 8) ([match (s.lane l).state with
         | .free => 0 | .filling => 1 | .complete => 2 | .disbanded => 3, byte (s.lane l).count, 0, 0] ++
       le32 (s.lane l).number)) ∧
     shows 0x10350 [byte s.blc.chute,
       if s.blc.modeCause = false ∧ s.blc.estopCause = false ∧ s.blc.chuteCause = false then 1 else 0,
       byte s.blc.tracking.length] ∧
     (∀ a, 0x10353 ≤ a → s.windowByte a = 0))

/-- A host write inside one frame in HOST (R163). One that does not begin with POSTED at the hand byte stores every byte
and changes nothing else. A write of POSTED to the hand byte stores its bytes and posts the frame: its stale return entry
goes, byte 7 and the result section are 0, it joins the intake list's tail and the posts counter rises. A write over
several frames in HOST that writes POSTED into none of their hand bytes stores every byte (R161). A write cut at the edge
of a frame or range is what its two parts are, written one after the other in address order, each judged by itself (R161);
said where no line's level is given for the command (`levels`, log 1), since two commands would take two of them. -/
def Obligations.HostWriteStoresAndPosts : Prop :=
  (∀ (s : State) (f : Nat) (bytes : List Byte), f < 512 → s.xu.hand f = .host → Memory.wf s.xu.mem = true →
    s.HaltPending →
    (∀ i, bytes ≠ [] → i + bytes.length ≤ 128 → ¬ (i = 0 ∧ bytes.head? = some 0xA5) →
      ∃ t, exec (.hostFrameWrite (f * 128 + i) bytes) s = .next t ∧
        (∀ a, Memory.read t.xu.mem a =
          if f * 128 + i ≤ a ∧ a < f * 128 + i + bytes.length then bytes.getD (a - (f * 128 + i)) 0
          else Memory.read s.xu.mem a) ∧
        t = { s.fresh with xu := { s.xu with mem := t.xu.mem } }) ∧
    (bytes.head? = some 0xA5 → bytes.length ≤ 128 →
      ∃ t, exec (.hostFrameWrite (f * 128) bytes) s = .next t ∧
        (∀ a, Memory.read t.xu.mem a =
          if a = f * 128 + 7 ∨ (f * 128 + 104 ≤ a ∧ a < f * 128 + 128) then 0
          else if f * 128 ≤ a ∧ a < f * 128 + bytes.length then bytes.getD (a - f * 128) 0
          else Memory.read s.xu.mem a) ∧
        t = { s.fresh with xu := { s.xu with
          mem := t.xu.mem, hands := s.xu.hands.set f .intake, intake := s.xu.intake ++ [f]
          returns := s.xu.returns.filter (fun g => g != f)
          posts := if s.xu.posts < 0xFFFFFFFF then s.xu.posts + 1 else 0xFFFFFFFF } })) ∧
  (∀ (s : State) (o : Nat) (bytes : List Byte), Memory.wf s.xu.mem = true → s.HaltPending →
    o + bytes.length ≤ 0x10000 → (∀ i, i < bytes.length → s.xu.hand ((o + i) / 128) = .host ∧
      ((o + i) % 128 = 0 → bytes.getD i 0 ≠ 0xA5)) →
    ∃ t, exec (.hostFrameWrite o bytes) s = .next t ∧
      (∀ a, Memory.read t.xu.mem a =
        if o ≤ a ∧ a < o + bytes.length then bytes.getD (a - o) 0 else Memory.read s.xu.mem a) ∧
      t = { s.fresh with xu := { s.xu with mem := t.xu.mem } }) ∧
  (∀ (s : State) (o : Nat) (a b : List Byte), s.levels = [] → s.HaltPending →
    ((o + a.length) % 128 = 0 ∧ o + a.length ≤ 0x10000) ∨ o + a.length = 0x10200 →
    exec (.hostFrameWrite o (a ++ b)) s = match exec (.hostFrameWrite o a) s with
      | .next u => exec (.hostFrameWrite (o + a.length) b) u
      | stopped => stopped)

/-- The Exchange Unit after a trespass (R164): the counter, the TRESPASS event, the capture in record 15. -/
def afterTrespass (x : Xu) (offset : Nat) (bytes : List Byte) (region frame : Nat) : Xu :=
  ({ x with
    trespasses := if x.trespasses < 0xFFFFFFFF then x.trespasses + 1 else 0xFFFFFFFF
    events := { x.events with trespass := true } }).capture 15 0x40
    (le32 offset ++ le16 bytes.length ++ (bytes ++ [0, 0, 0, 0]).take 4 ++ [byte region] ++ le16 frame)

/-- A trespass is discarded whole and has the three effects of R164: in a frame in INTAKE or WORK every write but a
recall, in the notice records every write but a re-arm, on the status page every write. A write outside the frames names
frame 0 (the model's choice, log 18). A write over two frames or two ranges is judged in its parts (R161): two trespasses,
each with its own offset, length and region, in address order, or a first part stored in a frame in HOST and a trespass
behind it. -/
def Obligations.TrespassIsDiscarded : Prop :=
  ∀ (s : State) (bytes : List Byte), bytes ≠ [] → s.HaltPending →
    (∀ f i, f < 512 → i + bytes.length ≤ 128 → ¬ (i = 0 ∧ bytes = [0x3C]) →
      (s.xu.hand f = .intake → exec (.trespass (f * 128 + i) bytes) s =
        .next { s.fresh with xu := afterTrespass s.xu (f * 128 + i) bytes 0 f }) ∧
      (∀ r, s.xu.hand f = .work r → exec (.trespass (f * 128 + i) bytes) s =
        .next { s.fresh with xu := afterTrespass s.xu (f * 128 + i) bytes 1 f })) ∧
    (∀ o, o + bytes.length ≤ 0x200 → ¬ (o % 32 = 0 ∧ bytes = [0]) →
      exec (.trespass (0x10000 + o) bytes) s =
        .next { s.fresh with xu := afterTrespass s.xu (0x10000 + o) bytes 2 0 }) ∧
    (∀ o, o + bytes.length ≤ 0xE00 →
      exec (.trespass (0x10200 + o) bytes) s =
        .next { s.fresh with xu := afterTrespass s.xu (0x10200 + o) bytes 3 0 }) ∧
    (let region := fun (f : Nat) => match s.xu.hand f with | .host => none | .intake => some 0 | .work _ => some 1
     (∀ f i b r r', f + 1 < 512 → i + bytes.length = 128 → b ≠ [] → b.length ≤ 128 → b ≠ [0x3C] → region f = some r →
       region (f + 1) = some r' → exec (.trespass (f * 128 + i) (bytes ++ b)) s = .next { s.fresh with
         xu := afterTrespass (afterTrespass s.xu (f * 128 + i) bytes r f) ((f + 1) * 128) b r' (f + 1) }) ∧
     (∀ f i b r, Memory.wf s.xu.mem = true → f + 1 < 512 → i + bytes.length = 128 → b ≠ [] → b.length ≤ 128 →
       b ≠ [0x3C] → s.xu.hand f = .host → ¬ (i = 0 ∧ bytes.head? = some 0xA5) → region (f + 1) = some r →
       ∃ m, (∀ a, Memory.read m a = if f * 128 + i ≤ a ∧ a < f * 128 + i + bytes.length then
           bytes.getD (a - (f * 128 + i)) 0 else Memory.read s.xu.mem a) ∧
         exec (.trespass (f * 128 + i) (bytes ++ b)) s = .next { s.fresh with
           xu := afterTrespass { s.xu with mem := m } ((f + 1) * 128) b r (f + 1) }) ∧
     (∀ i b r, i + bytes.length = 128 → b ≠ [] → b.length ≤ 0x200 → b ≠ [0] → region 511 = some r →
       exec (.trespass (511 * 128 + i) (bytes ++ b)) s = .next { s.fresh with
         xu := afterTrespass (afterTrespass s.xu (511 * 128 + i) bytes r 511) 0x10000 b 2 0 }) ∧
     (∀ o b, o + bytes.length = 0x200 → b ≠ [] → b.length ≤ 0xE00 →
       exec (.trespass (0x10000 + o) (bytes ++ b)) s = .next { s.fresh with
         xu := afterTrespass (afterTrespass s.xu (0x10000 + o) bytes 2 0) 0x10200 b 3 0 }))

/-- A recall request by the frame's hand (R164, R165): in HOST the byte is stored; in INTAKE the frame leaves the intake
list and returns RECALLED; in WORK with the recall taken nothing happens. A docket in work has its hand byte read RECALL
and its recall flag taken: one whose owner no recall stops (a START) goes on. A STORE acts by its state (R81): one that
waits for its tyre returns RECALLED at once with its counts, and a tyre at the infeed is sent back (R79); one that is
placing without a placement visit in progress loses its waiting visit, sends the accepted tyre back by a pulse for that
visit, and returns RECALLED likewise; with the visit in progress its result becomes RECALLED; one that is ending is left
as it is. An ORDER (R113, R114): in LANE_WAIT its marks are removed and counted unfilled, and it returns RECALLED at once
with its flag; in PICKING or CLOSING, with no visit of a carousel concerned, its marks are released, its timer stops, and
with a tyre in transit it is CANCELLING, else it returns RECALLED and its lane is DISBANDED, or FREE where nothing lies in
it. A GLANCE (R138): with its visit in progress only the recall is noted; with the visit waiting or the request held, and
no other record's request held at the carousel, its PENDING bays are NOT_DONE, the visit leaves the list, and it returns
RECALLED. A RECOUNT (R145) likewise; with its visit in progress a first grip that was issued makes the recall too late. A
pending ENTER_MAINTENANCE returns RECALLED and is no longer pending (R153). (The owner of a docket is found by its frame
number, the model's reading, log 36.) -/
def Obligations.RecallByHandState : Prop :=
  ∀ (s : State) (f : Nat), f < 512 → s.HaltPending →
    let inWork := (s.xu.writeFrame f 0 [0x3C]).setHand f (.work true)
    (s.xu.hand f = .host → exec (.recallRequest f) s = .next { s.fresh with xu := s.xu.writeFrame f 0 [0x3C] }) ∧
    (s.xu.hand f = .intake → exec (.recallRequest f) s = .next { s.fresh with
      xu := ({ s.xu with intake := s.xu.intake.filter fun g => g != f }).frameReturn f [] 0x02 0 [] }) ∧
    (s.xu.hand f = .work true → exec (.recallRequest f) s = .next s.fresh) ∧
    (s.xu.hand f = .work false → s.cars.length = 12 → s.pau.length = 12 → s.cfg.count ≤ 12 →
      ((∀ p ∈ s.pau, ∀ x, p.store = some x → x.frame ≠ f) → (∀ o, some o ∈ s.odt.orders → o.frame ≠ f) →
        (∀ a, some a ∈ s.aud.records → a.frame ≠ f) → (∀ x ∈ s.cars, x.service ≠ some ⟨f, .enterMaintenance⟩) →
        exec (.recallRequest f) s = .next { s.fresh with xu := inWork }) ∧
      (∀ c x, s.configured c = true → (s.pauOf c).store = some x → x.frame = f →
        (∀ c' x', 1 ≤ c' → c' ≤ 12 → (s.pauOf c').store = some x' → x'.frame = f → c' = c) →
        let contents := [byte x.stored, byte255 x.refused, byte x.variance, byte (x.lastBay.getD 255)]
        let returned := s.pau.set (c - 1) { s.pauOf c with store := none, arrival := none, requestHeld := false }
        let sentBack := if s.fresh.infeed c then [Out.reject c] else []
        (x.state = .waitingArrival → exec (.recallRequest f) s = .next { s.fresh with
          xu := inWork.frameReturn f [] 0x02 x.overrun.toNat contents, pau := returned, outs := sentBack }) ∧
        (x.state = .placing → (s.car c).placementRuns = false → exec (.recallRequest f) s = .next { s.fresh with
          xu := inWork.frameReturn f [] 0x02 x.overrun.toNat contents, pau := returned
          cars := s.cars.set (c - 1) { s.car c with visits := (s.car c).visits.filter fun v => v.kind != .placement }
          outs := (if (s.car c).visits.any (fun v => v.kind == .placement) then [Out.reject c] else []) ++ sentBack }) ∧
        (x.state = .placing → (s.car c).placementRuns = true → exec (.recallRequest f) s = .next { s.fresh with
          xu := inWork, pau := s.pau.set (c - 1) { s.pauOf c with store := some { x with state := .ending .recalled } } }) ∧
        (∀ r, x.state = .ending r → exec (.recallRequest f) s = .next { s.fresh with xu := inWork })) ∧
      ((∀ p ∈ s.pau, ∀ x, p.store = some x → x.frame ≠ f) →
        (∀ slot o, slot < 64 → s.order slot = some o → o.frame = f →
          (∀ i o', s.order i = some o' → o'.frame = f → i = slot) →
          let r := s.stb.removeMarks (ofOrder slot [])
          let counted := fun (o : Order) => r.2.foldl (fun o m => o.modLine m.line fun l =>
            { l with reserved := l.reserved - 1, unfilled := l.unfilled + 1 }) o
          let returned := fun (o : Order) (flags : Nat) => inWork.frameReturn f [] 0x02 flags ([byte slot,
            byte (o.lane.getD 0)] ++ ((o.lines.flatMap fun (l : Line) => [byte l.delivered, byte l.unfilled]) ++
              List.replicate 16 0).take 16 ++ [byte255 (o.total (·.lost))])
          (o.state = .laneWait → exec (.recallRequest f) s = .next { s.fresh with
            xu := returned (counted o) (o.timedOut.toNat + 2), stb := r.1
            odt := { s.odt with
              orders := s.odt.orders.set slot none, waiting := s.odt.waiting.filter (fun i => i != slot) } }) ∧
          (o.state = .picking ∨ o.state = .closing → (∀ x ∈ s.cars, x.visits = [] ∧ x.current = none) →
            let o' := counted { o with run := .stopped, state := .cancelling }
            ((∃ l ∈ o.lines, l.inTransit ≠ 0) → exec (.recallRequest f) s = .next { s.fresh with
              xu := inWork, stb := r.1, odt := { s.odt with orders := s.odt.orders.set slot (some o') } }) ∧
            (∀ lane, (∀ l ∈ o'.lines, l.reserved = 0 ∧ l.inTransit = 0) → o.lane = some lane →
              let freed := fun (y : Lane) => Host.Outcome.next (ρ := Refusal) (φ := Fault) { s.fresh with
                xu := returned o' o.timedOut.toNat, stb := r.1
                odt := { s.odt with orders := s.odt.orders.set slot none, lanes := s.odt.lanes.set (lane - 1) y } }
              ((s.lane lane).count ≠ 0 →
                exec (.recallRequest f) s = freed { s.lane lane with state := .disbanded, slot := none }) ∧
              ((s.lane lane).count = 0 → s.odt.waiting = [] →
                exec (.recallRequest f) s = freed ⟨.free, none, 0, 0⟩)))) ∧
        ((∀ o, some o ∈ s.odt.orders → o.frame ≠ f) →
          (∀ r a, r < 8 → s.audit r = some a → a.frame = f →
            (∀ i a', s.audit i = some a' → a'.frame = f → i = r) →
            let recalled : AuditRec :=
              { a with recallTaken := true, tooLate := if a.recount then a.gripped else a.tooLate }
            let ended : AuditRec := { recalled with outcomes := (a.bays.zip a.outcomes).map fun z =>
              if z.2 = .pending then .notDone else z.2 }
            let returns := fun (cars : List Car) => Host.Outcome.next (ρ := Refusal) (φ := Fault) { s.fresh with
              xu := if a.recount then inWork.frameReturn f [] 0x02
                  (2 * a.stopAtStart.toNat + 128 * a.gripped.toNat) [byte (stopCode a.stop), byte a.movedAtEnd]
                else inWork.frameReturn f (ended.outcomes.map fun (z : BayOutcome) => byte z.code) 0x02
                  (a.faultSeen.toNat + 2 * a.carouselLost.toNat) ended.glanceContents
              aud := { s.aud with records := s.aud.records.set r none }, cars := cars }
            (∀ k, a.visit = .inProgress k → exec (.recallRequest f) s = .next { s.fresh with
              xu := inWork, aud := { s.aud with records := s.aud.records.set r (some recalled) } }) ∧
            ((a.recount = true → a.reseek = false) → a.visit = .none → a.asking = true → exec (.recallRequest f) s = returns s.cars) ∧
            (∀ k, (a.recount = true → a.reseek = false) → a.visit = .waiting k → a.asking = false →
              (∀ i a', i ≠ r → s.audit i = some a' → a'.carousel = a.carousel → a'.asking = false) →
              exec (.recallRequest f) s = returns (s.cars.set (a.carousel - 1) { s.car a.carousel with
                visits := (s.car a.carousel).visits.filter fun v => v.audit != some r }))) ∧
          (∀ c, (∀ a, some a ∈ s.aud.records → a.frame ≠ f) → s.configured c = true →
            (s.car c).service = some ⟨f, .enterMaintenance⟩ →
            (∀ c', s.configured c' = true → (s.car c').service = some ⟨f, .enterMaintenance⟩ → c' = c) →
            exec (.recallRequest f) s = .next { s.fresh with
              xu := inWork.frameReturn f [] 0x02 0 []
              cars := s.cars.set (c - 1) { s.car c with service := none } }))))

/-- The notice records (R170). A capture request in an ARMED record writes kind, uptime, details and a missed count of 0,
the record is HELD and NOTICE is set; in a HELD record the missed count rises, holding at 255, and nothing else changes. A
re-arm writes the state byte ARMED and the missed count 0 and keeps kind, stamp and details; a record already ARMED does
not change. -/
def Obligations.NoticeRecordsCapture : Prop :=
  (∀ (x : Xu) (r kind : Nat) (details : List Byte), r < x.notices.length →
      ((x.notices.getD r Notice.reset).held = false → x.capture r kind details = { x with
        notices := x.notices.set r ⟨true, kind, 0, x.uptime, (details ++ List.replicate 24 0).take 24⟩
        events := { x.events with notice := true } }) ∧
      ((x.notices.getD r Notice.reset).held = true → x.capture r kind details = { x with
        notices := x.notices.set r ({ (x.notices.getD r Notice.reset) with
          missed := if (x.notices.getD r Notice.reset).missed + 1 < 255
            then (x.notices.getD r Notice.reset).missed + 1 else 255 } : Notice) })) ∧
  (∀ (s : State) (r : Nat), r < 16 → s.HaltPending →
      ((s.xu.notices.getD r Notice.reset).held = true → exec (.reArm r) s = .next { s.fresh with
        xu := { s.xu with
          notices := s.xu.notices.set r { s.xu.notices.getD r Notice.reset with held := false, missed := 0 } } }) ∧
      ((s.xu.notices.getD r Notice.reset).held = false → exec (.reArm r) s = .next s.fresh))

/-- The return of a frame (R167, R175): the list part from byte 8, the whole result section, the hand byte OPEN, every
other byte of the window kept; the frame is HOST and stands at the tail of the return list. -/
def Obligations.FrameReturnWritesResult : Prop :=
  ∀ (x : Xu) (f code flags : Nat) (list contents : List Byte), Memory.wf x.mem = true → f < x.hands.length →
    list.length ≤ 96 →
    (x.frameReturn f list code flags contents).hand f = .host ∧
    (x.frameReturn f list code flags contents).returns = x.returns ++ [f] ∧
    (∀ a, Memory.read (x.frameReturn f list code flags contents).mem a =
      if a = f * 128 then 0
      else if f * 128 + 8 ≤ a ∧ a < f * 128 + 8 + list.length then list.getD (a - (f * 128 + 8)) 0
      else if a = f * 128 + 104 then byte code
      else if a = f * 128 + 105 then byte flags
      else if f * 128 + 106 ≤ a ∧ a < f * 128 + 128 then contents.getD (a - (f * 128 + 106)) 0
      else Memory.read x.mem a) ∧
    x.frameReturn f list code flags contents = { x with
      mem := (x.frameReturn f list code flags contents).mem, hands := x.hands.set f .host, returns := x.returns ++ [f] }

/-! ### The dispatcher and the docket kinds -/

/-- The dispatcher takes the frame at the head of the intake list into work; a frame that fails a check of R166 returns
with the refusal of the first that fails: REFUSED_CHECK, REFUSED_KIND, REFUSED_LENGTH, REFUSED_MODE, or REFUSED_FIELD with
the offset of the first field out of range. A SERVICE is taken by the row of its sub-request, and one with a sub-request
no row owns by any of the four (the model's choice, log 5). -/
def Obligations.DispatcherRefusals : Prop :=
  ∀ (s : State) (f : Nat), s.Lawful → s.xu.intake.head? = some f →
    s.takeFrame f = { s with xu := { s.xu with
      hands := s.xu.hands.set f (.work false), intake := s.xu.intake.tail } } ∧
    (s.xu.checkOk f = false → exec .refusedKind s = .next ((s.fresh.takeFrame f).answer f 0x30 0 [])) ∧
    (s.xu.checkOk f = true → s.xu.kindOf f = none →
      exec .refusedKind s = .next ((s.fresh.takeFrame f).answer f 0x31 0 [])) ∧
    (∀ (k : DocketKind) (sub : ServiceKind), s.Offers f k →
      (k = .service → s.xu.frameNat f 9 1 = sub.code ∨ 3 < s.xu.frameNat f 9 1) →
      (k.lengthOk (s.xu.frameNat f 6 1) = false →
        exec (k.command sub) s = .next ((s.fresh.takeFrame f).answer f 0x32 0 [])) ∧
      (k.lengthOk (s.xu.frameNat f 6 1) = true → s.xu.permits k = false →
        exec (k.command sub) s = .next ((s.fresh.takeFrame f).answer f 0x33 0 [])) ∧
      (∀ o, k.lengthOk (s.xu.frameNat f 6 1) = true → s.xu.permits k = true →
        firstBad (fieldChecks s.xu s.cfg.count f k) = some o →
        exec (k.command sub) s = .next ((s.fresh.takeFrame f).answer f 0x34 0 [byte o])))

/-- The two dockets that set records. An accepted CONFIGURE sets all eight values and returns DONE (R172, R177). An
accepted ARTICLE (R2): a change of pitch or mass of a defined article with stock is REFUSED_IN_STOCK and changes nothing;
otherwise the record takes the given values, and no other record changes. The result gives the on-hand total. -/
def Obligations.ConfigureAndArticleSetRecords : Prop :=
  ∀ (s : State) (f : Nat), s.Lawful →
    (s.Accepts f .configure →
      exec .configure s = .next (({ s.fresh with
        cfg := ⟨s.xu.frameNat f 8 1, s.xu.frameNat f 9 1, s.xu.frameNat f 10 1, s.xu.frameNat f 11 1 == 1,
          s.xu.frameNat f 12 2, s.xu.frameNat f 14 2, s.xu.frameNat f 16 2, s.xu.frameNat f 18 1⟩
        xu := { (s.takeFrame f).xu with configureTaken := true } } : State).answer f 0x01 0 [])) ∧
    (s.Accepts f .article →
      let a := s.xu.frameNat f 8 2
      let r : Article := ⟨true, s.xu.frameNat f 10 2, s.xu.frameNat f 12 2, s.xu.frameNat f 14 1 == 1⟩
      let old := s.stb.article a
      let keeps := old.defined = true ∧ (old.pitch ≠ r.pitch ∨ old.mass ≠ r.mass) ∧ 0 < s.stb.onHandOf a
      (keeps → exec .article s = .next ((s.fresh.takeFrame f).answer f 0x27 0 (le16 (s.stb.onHandOf a)))) ∧
      (¬ keeps → ∃ t : Stb,
        exec .article s = .next (({ s.fresh.takeFrame f with stb := t } : State).answer f 0x01 (!old.defined).toNat
          (le16 (s.stb.onHandOf a))) ∧
        t.article a = r ∧ (∀ b, b ≠ a → t.article b = s.stb.article b) ∧ t = { s.stb with articles := t.articles }))

/-- An accepted START awaits every configured carousel and puts each in HOMING (R29, R172): its home pass drives forward
in creep with a watchdog of 124.5 s, and is held back while a lock cause stands (R158). -/
def Obligations.StartBeginsHoming : Prop :=
  ∀ (s : State) (f : Nat), s.Lawful → s.Accepts f .start →
    ∃ t, exec .start s = .next t ∧
      t = { s.fresh with
        xu := { (s.takeFrame f).xu with start := some ⟨f, List.range' 1 s.cfg.count, List.replicate 12 0⟩ }
        cars := t.cars } ∧
      t.cars.length = 12 ∧
      ∀ c, 1 ≤ c → c ≤ 12 →
        (s.cfg.count < c → t.car c = s.car c) ∧
        (c ≤ s.cfg.count → (s.car c).lockCause = true → t.car c = { s.car c with
          state := .homing, pass := some ⟨false, (s.car c).offset.isNone, 0⟩ }) ∧
        (c ≤ s.cfg.count → (s.car c).lockCause = false → t.car c = { s.car c with
          state := .homing, pass := some ⟨true, (s.car c).offset.isNone, 0⟩, drive := some ⟨.forward, .creep⟩
          powered := true, brakeHeld := false, watchdog := some ⟨0, 12450⟩ })

/-- An accepted STOCK LOAD (R18): the first refusal of its seven checks that applies, with nothing else changed; with
every check passed the bay takes the list by a stack replacement, and the result gives the seven figures. -/
def Obligations.StockLoadChecksInOrder : Prop :=
  ∀ (s : State) (f : Nat), s.Lawful → s.Accepts f .stockLoad →
    let c := s.xu.frameNat f 8 1
    let b := s.xu.frameNat f 9 1
    let new := loadEntries s.xu f
    let y := s.stb.bay c b
    let height := s.stb.height new
    let load := s.stb.load new + (s.stb.bay c (sisterOf b)).load
    exec .stockLoad s = .next (
      if ¬ (s.xu.mode = .setup ∨ (s.car c).state = .maintenance) then (s.fresh.takeFrame f).answer f 0x33 0 []
      else if y.held.isSome then (s.fresh.takeFrame f).answer f 0x28 0 []
      else match new.findIdx? (fun e => !(s.stb.article e.label.article).defined) with
        | some i => (s.fresh.takeFrame f).answer f 0x29 0 [byte i]
        | none =>
          if 0 < markedIn y.stack then (s.fresh.takeFrame f).answer f 0x2A 0 [byte (markedIn y.stack)]
          else if 1600 < height then (s.fresh.takeFrame f).answer f 0x2B 0 (le16 height)
          else if 5000 < load then (s.fresh.takeFrame f).answer f 0x2B 1 (le16 load)
          else match s.stb.replace c b new with
            | none => (s.fresh.takeFrame f).answer f 0x0C 0 []
            | some (t, made, ended) =>
              ({ s.fresh.takeFrame f with stb := t } : State).answer f 0x01 0
                ([byte y.stack.length, byte new.length, byte made, byte ended] ++ le16 (t.bay c b).height ++
                  le16 (t.bay c b).load ++ le16 (t.car c).imbalance))

/-- A stack replacement (R17). With `made` the keys of the new list that the map does not hold, and `ended` the keys of
the map that one of the two lists holds and whose on-hand count would be 0 after it: it is MAP_FULL, with nothing to
apply, exactly where the keys of the map and those made, less those ended, would exceed 4,096. Otherwise it answers the
two numbers, sets the bay's stack with its height and load, removes SUSPECT and keeps HELD, changes every key's on-hand
count by new less old and its reserved count by marked new less marked old, a key that is ended counting none, and leaves
every other bay, rack and gripper and the articles. -/
def Obligations.StackReplacementSetsBay : Prop :=
  ∀ (t : Stb) (c b : Nat) (new : List Entry) (made ended : List Label), t.shaped → 1 ≤ c → c ≤ 12 → b < 40 →
    let old := (t.bay c b).stack
    made.Nodup → (∀ k, k ∈ made ↔ t.hasKey k = false ∧ 0 < countKey k new) →
    ended.Nodup → (∀ k, k ∈ ended ↔ t.hasKey k = true ∧ (0 < countKey k new ∨ 0 < countKey k old) ∧
      (t.batchOf k).onHand + countKey k new - countKey k old = 0) →
    (t.replace c b new = none ↔ 4096 < t.batch.length + made.length - ended.length) ∧
    (∀ u m n, t.replace c b new = some (u, m, n) →
      m = made.length ∧ n = ended.length ∧
      u.bay c b = ⟨new, t.height new, t.load new, (t.bay c b).held, none⟩ ∧
      (∀ c' b', 1 ≤ c' → (c', b') ≠ (c, b) → u.bay c' b' = t.bay c' b') ∧
      (∀ c', 1 ≤ c' → (u.car c').rack = (t.car c').rack ∧ (u.car c').gripper = (t.car c').gripper) ∧
      (∀ k, (u.batchOf k).onHand = (t.batchOf k).onHand + countKey k new - countKey k old) ∧
      (∀ k, countKey k new = 0 ∧ countKey k old = 0 → u.batchOf k = t.batchOf k) ∧
      (∀ k, 0 < countKey k new ∨ 0 < countKey k old → (u.batchOf k).reserved =
        if (t.batchOf k).onHand + countKey k new - countKey k old = 0 then 0
        else (t.batchOf k).reserved + countMarked k new - countMarked k old) ∧
      u.articles = t.articles)

/-- An accepted STORE (R66): PORT_BUSY, REFUSED_UNDEFINED or NOT_IN_SERVICE, in that order; otherwise a store record in
WAITING_ARRIVAL with its arrival timer from 0. -/
def Obligations.StoreTaken : Prop :=
  ∀ (s : State) (f : Nat), s.Lawful → s.Accepts f .store →
    let c := s.xu.frameNat f 8 1
    let l := labelAt s.xu f 10
    exec .store s = .next (
      if (s.pauOf c).store.isSome then (s.fresh.takeFrame f).answer f 0x21 0 []
      else if (s.stb.article l.article).defined = false then (s.fresh.takeFrame f).answer f 0x29 0 []
      else if s.inService c = false then (s.fresh.takeFrame f).answer f 0x25 0 []
      else { s.fresh.takeFrame f with
        pau := s.pau.set (c - 1) { s.pauOf c with
          store := some ⟨l, s.xu.frameNat f 9 1, 0, 0, 0, none, false, .waitingArrival, f⟩, arrival := some 0 } })

/-- An accepted ORDER (R102): REFUSED_UNDEFINED with the line, DUPLICATE with the slot, TABLE_FULL, or SHORT with line and
best count, in that order, each with nothing else changed. An admitted order takes the next admission sequence, which then
stays in its range 1 to 4,294,967,295 (R100; past the top the spec states no next one, and the model's is a free value,
log 24); its marks are set, and its lines count as many tyres reserved as the match gives places. While no lane is FREE it
enters LANE_WAIT in its ranked place of the waiting list. With a lane FREE and no order waiting it is bound at once to the
lowest FREE lane and is PICKING, its lift demands sent (R104, R106): the state is that of one binding, which
`BindingFillsLane` describes, from the admitted order waiting alone; with no carousel at rest nothing but the carousels'
visit lists changes beside. (The order in which the binding's lift demands are sent is the model's choice, log 55.) -/
def Obligations.OrderAdmission : Prop :=
  ∀ (s : State) (f : Nat), s.Lawful → s.Accepts f .order →
    let lines := orderLines s.xu f
    let number := s.xu.frameNat f 8 4
    let partialOk := s.xu.frameNat f 13 1 == 1
    (∀ i, lines.findIdx? (fun l => !(s.stb.article l.article).defined) = some i →
      exec .order s = .next ((s.fresh.takeFrame f).answer f 0x29 0 [byte (i + 1)])) ∧
    (lines.findIdx? (fun l => !(s.stb.article l.article).defined) = none →
      (∀ i, s.slotOf number = some i → exec .order s = .next ((s.fresh.takeFrame f).answer f 0x24 0 [byte i])) ∧
      (s.slotOf number = none → (∀ o ∈ s.odt.orders, o ≠ none) →
        exec .order s = .next ((s.fresh.takeFrame f).answer f 0x23 0 [])) ∧
      (∀ slot, s.slotOf number = none → slot < 64 → s.order slot = none → (∀ i, i < slot → s.order i ≠ none) →
        (∀ n best, admissionMatch s.stb s.serviceList slot partialOk lines = .short n best →
          exec .order s = .next ((s.fresh.takeFrame f).answer f 0x05 0 [byte n, byte255 best])) ∧
        (∀ t places, admissionMatch s.stb s.serviceList slot partialOk lines = .filled t places →
          let order : Order := {
            number := number, priority := s.xu.frameNat f 12 1, partialOk := partialOk, seq := s.odt.nextSeq
            state := .laneWait, lane := none
            lines := (lines.zip places).map fun x =>
              { x.1 with reserved := x.2.length, unfilled := x.1.quantity - x.2.length }
            elapsed := 0, run := .stopped, timedOut := false, frame := f }
          let sequenced := fun (u : State) => 1 ≤ u.odt.nextSeq ∧ u.odt.nextSeq ≤ 4294967295 ∧
            (s.odt.nextSeq < 4294967295 → u.odt.nextSeq = s.odt.nextSeq + 1 ∧ u.free = s.free)
          (s.freeLane = none → ∃ u, exec .order s = .next u ∧ sequenced u ∧
            u.order slot = some order ∧ (∀ i, i ≠ slot → u.order i = s.order i) ∧
            u.odt.waiting = rankBy u.waitKeys (s.odt.waiting ++ [slot]) ∧
            u = { s.fresh.takeFrame f with
              stb := t
              odt := { s.odt with orders := u.odt.orders, waiting := u.odt.waiting, nextSeq := u.odt.nextSeq }
              free := u.free }) ∧
          (∀ lane, s.freeLane = some lane → s.odt.waiting = [] →
            (∀ x ∈ s.cars, x.state ≠ .idle ∧ x.state ≠ .parked) → ∃ u, exec .order s = .next u ∧ sequenced u ∧
            u.order slot = some { order with state := .picking, lane := some lane, run := .running } ∧
            (∀ i, i ≠ slot → u.order i = s.order i) ∧
            u = { s.fresh.takeFrame f with
              stb := t
              odt := { s.odt with
                orders := u.odt.orders, nextSeq := u.odt.nextSeq
                lanes := s.odt.lanes.set (lane - 1) ⟨.filling, some slot, number, 0⟩ }
              cars := u.cars, serial := u.serial, free := u.free } ∧
            u.cars.length = 12 ∧ (∀ c, 1 ≤ c → c ≤ 12 → u.car c = { s.car c with visits := (u.car c).visits }) ∧
            u = ({ s.fresh.takeFrame f with
              stb := t
              odt := { s.odt with
                orders := s.odt.orders.set slot (some order), waiting := [slot], nextSeq := u.odt.nextSeq }
              free := u.free } : State).bindOne slot lane))))

/-- The binding of waiting orders to lanes (R104, R106). With no order waiting or no lane FREE it changes nothing; else
the first order of the waiting list leaves it for the lowest FREE lane and the binding goes on. The lane is FILLING with
its slot, number and count 0, and the order is PICKING with its pick timer running from 0. For each entry that carries a
mark of the order, where its carousel is in service and the visit lists leave room, a lift demand with slot, line, bay and
depth stands in the waiting lift visit of the bay's carrier; an entry on the rack or in the gripper counts at its origin
bay, depth 0. (The demand carries two depths, R106's of the binding and the depth at reservation of R34, R35 and R87: the
model's choice, log 43.) -/
def Obligations.BindingFillsLane : Prop :=
  (∀ s : State, s.odt.waiting = [] ∨ s.freeLane = none → s.bind = s) ∧
  (∀ (s : State) (slot lane : Nat) (rest : List Nat) (o : Order), s.Lawful → s.odt.waiting = slot :: rest →
    s.freeLane = some lane → s.order slot = some o → slot < 64 →
    let u := s.bindOne slot lane
    s.bind = u.bind ∧
    1 ≤ lane ∧ lane ≤ 16 ∧ (s.lane lane).state = .free ∧ (∀ l, 1 ≤ l → l < lane → (s.lane l).state ≠ .free) ∧
    u.odt.waiting = rest ∧ u.lane lane = ⟨.filling, some slot, o.number, 0⟩ ∧
    u.order slot = some { o with lane := some lane, state := .picking, elapsed := 0, run := .running } ∧
    (∀ i, i ≠ slot → u.order i = s.order i) ∧ u.stb = s.stb ∧
    (let demanded := fun (c : Nat) (d : Demand) => ∃ v ∈ (u.car c).visits,
        v.kind = .lift ∧ v.target = some (d.bay / 2) ∧ d ∈ v.demands
      let own := s.stb.marked.filter fun m => m.2.slot == slot
      let open_ := fun (c : Nat) => s.inService c = true ∧
        ∀ n ∈ 0 :: (s.car c).visits.map (fun v => v.demands.length), n + own.length ≤ 40
      (∀ c b d e line, (Spot.bay c b d, ⟨slot, line⟩) ∈ s.stb.marked → (s.stb.bay c b).stack[d]? = some e → open_ c →
        demanded c ⟨slot, line, b, d, e.reservedAt⟩) ∧
      (∀ c i e line, (Spot.rack c i, ⟨slot, line⟩) ∈ s.stb.marked → (s.stb.car c).rack[i]? = some e → open_ c →
        demanded c ⟨slot, line, e.origin, 0, e.entry.reservedAt⟩) ∧
      (∀ c e b line, (Spot.gripper c, ⟨slot, line⟩) ∈ s.stb.marked → open_ c →
        (s.stb.car c).gripper = some ⟨e, .bay b⟩ ∨ (s.stb.car c).gripper = some ⟨e, .rack b⟩ →
        demanded c ⟨slot, line, b, 0, e.reservedAt⟩)))

/-- What a set rule chooses among sorted candidates for a quantity q (R85, R86). ANY: the first q. ONE_BATCH and
CLOSE_BATCH, with a span of 0 and of n: the first q of the window that starts at a candidate's week index and reaches the
span, and no window that starts at a lower week index holds q. It chooses none only where no window holds the quantity. -/
def Obligations.SetRulesChooseWindows : Prop :=
  ∀ (r : SetRule) (l : List Cand) (q : Nat), l.Pairwise (fun x y => x.week ≤ y.week) →
    let window := fun (start span : Nat) => l.filter fun y => decide (start ≤ y.week) && decide (y.week ≤ start + span)
    let batch := fun (span : Nat) =>
      (∀ w, r.choose l q = some w → w.length = q ∧ ∃ x ∈ l, w = (window x.week span).take q ∧
        ∀ y ∈ l, y.week < x.week → (window y.week span).length < q) ∧
      (r.choose l q = none → ∀ x ∈ l, (window x.week span).length < q)
    (r = .any → (∀ w, r.choose l q = some w → w = l.take q ∧ q ≤ l.length) ∧ (r.choose l q = none → l.length < q)) ∧
    (r = .oneBatch → batch 0) ∧
    (∀ n, r = .closeBatch n → batch n)

/-- The candidates for an article on the carousels given (R83, R84): none where it is blocked; else exactly the unmarked
entries of the article in bays that are neither HELD nor SUSPECT, each with its week index, sorted by week, depth,
carousel, carrier and side. A line's held set (R90): the week indices of the entries that carry its mark, but for the
place left out, and its held list. The search of a re-seek (R91): the first candidate in that order that the request
leaves in and that qualifies beside the held set by the line's rule, or none where none does. -/
def Obligations.CandidatesAndSearch : Prop :=
  (∀ (t : Stb) (carousels : List Nat) (article : Nat),
    let l := t.candidates carousels article
    ((t.article article).blocked = true → l = []) ∧
    ((t.article article).blocked = false → ∀ x : Cand, x ∈ l ↔ x.c ∈ carousels ∧
      (t.bay x.c x.b).held = none ∧ (t.bay x.c x.b).suspect = none ∧
      ∃ e, (t.bay x.c x.b).stack[x.d]? = some e ∧ e.label.article = article ∧ e.mark = none ∧ x.week = e.label.week) ∧
    l.Pairwise (fun x y => x.week < y.week ∨ (x.week = y.week ∧ (x.d < y.d ∨ (x.d = y.d ∧ (x.c < y.c ∨
      (x.c = y.c ∧ (x.b / 2 < y.b / 2 ∨ (x.b / 2 = y.b / 2 ∧ x.b % 2 ≤ y.b % 2))))))))) ∧
  (∀ (s : State) (slot line : Nat) (held : List Nat) (without : Option Spot) (w : Nat),
    w ∈ s.heldSet slot line held without ↔ w ∈ held ∨ ∃ p e, (p, ⟨slot, line⟩) ∈ s.stb.marked ∧ some p ≠ without ∧
      s.stb.entryAt p = some e ∧ e.label.week = w) ∧
  (∀ (s : State) (slot line : Nat) (l : Line) (without : Option Spot) (keep : Cand → Bool),
    let h := s.heldSet slot line l.held without
    let cands := s.stb.candidates s.serviceList l.article
    let fits := fun (x : Cand) => match l.rule with
      | .any => True
      | .oneBatch => ∀ y ∈ h, x.week = y
      | .closeBatch n => ∀ y ∈ x.week :: h, ∀ z ∈ x.week :: h, y ≤ z + n
    (∀ x, s.seek slot line l without keep = some x → keep x = true ∧ fits x ∧
      ∃ before behind, cands = before ++ x :: behind ∧ ∀ y ∈ before, ¬ (keep y = true ∧ fits y)) ∧
    (s.seek slot line l without keep = none → ∀ y ∈ cands, ¬ (keep y = true ∧ fits y)))

/-- The admission match (R87, R88, R89), line by line on the candidates as the marks of the lines before leave them. Where
it fills, the table passes through one table for each line: a line's rule chooses its places, or under PARTIAL, where the
rule chooses none, it takes the largest window its rule allows, the first of equals; those places take the line's mark;
and some tyre is found. Under ALL_OR_NOTHING, with a quantity on every line, it is SHORT at the first line whose rule
chooses none, with the size of the largest window. Under PARTIAL it is SHORT only with no tyre on any line, the places of
every line empty on the table as it stands, and it names line 1 and 0. A place that takes a mark keeps its entry's label,
and the depth it was chosen at as its depth at reservation (kept beside the mark: the model's choice, log 43). -/
def Obligations.AdmissionMatchByLines : Prop :=
  ∀ (t : Stb) (carousels : List Nat) (slot : Nat) (partialOk : Bool) (lines : List Line),
    let cands := fun (u : Stb) (l : Line) => u.candidates carousels l.article
    let isLargest := fun (w : List Cand) (ws : List (List Cand)) =>
      (ws = [] ∧ w = []) ∨ ∃ before behind, ws = before ++ w :: behind ∧
        (∀ x ∈ before, x.length < w.length) ∧ ∀ x ∈ behind, x.length ≤ w.length
    let matches_ := fun (u : Stb) (l : Line) (w : List Cand) =>
      l.rule.choose (cands u l) l.quantity = some w ∨
        (partialOk = true ∧ l.rule.choose (cands u l) l.quantity = none ∧ isLargest w (l.rule.windows (cands u l)))
    (∀ u places, admissionMatch t carousels slot partialOk lines = .filled u places →
      places.length = lines.length ∧ (∃ w ∈ places, w ≠ []) ∧
      ∃ after : Nat → Stb, after 0 = t ∧ after lines.length = u ∧
        ∀ j l w, lines[j]? = some l → places[j]? = some w →
          matches_ (after j) l w ∧ after (j + 1) = (after j).markAll ⟨slot, j + 1⟩ w) ∧
    (∀ n best, admissionMatch t carousels slot partialOk lines = .short n best →
      (partialOk = true → n = 1 ∧ best = 0 ∧ ∀ (j : Nat) (l : Line), lines[j]? = some l → matches_ t l []) ∧
      (partialOk = false → lines ≠ [] → (∀ l ∈ lines, 1 ≤ l.quantity) →
        ∃ (j : Nat) (l : Line) (after : Nat → Stb) (w : List Cand), n = j + 1 ∧ lines[j]? = some l ∧ after 0 = t ∧
          (∀ i m, i < j → lines[i]? = some m → ∃ x, m.rule.choose (cands (after i) m) m.quantity = some x ∧
            after (i + 1) = (after i).markAll ⟨slot, i + 1⟩ x) ∧
          l.rule.choose (cands (after j) l) l.quantity = none ∧ isLargest w (l.rule.windows (cands (after j) l)) ∧
          best = w.length)) ∧
    (∀ (x : Cand) (e : Entry) (m : Mark), t.shaped → 1 ≤ x.c → x.c ≤ 12 → x.b < 40 →
      (t.bay x.c x.b).stack[x.d]? = some e →
      ((t.mark x.spot m).bay x.c x.b).stack[x.d]? = some ⟨e.label, some m, x.d⟩)

/-- An accepted LANE CLEAR (R105, R130): lane 0 gives the chute count and sets it to 0 without CHUTE_FULL, and where the
belt begins to run by it the result is the merge test of that state; a FREE lane answers DONE with bit 0, a FILLING lane
LANE_BUSY with count and number; a COMPLETE or DISBANDED lane becomes FREE and waiting orders are bound (R104), which with
no carousel at rest is all. -/
def Obligations.LaneClearEmptiesLane : Prop :=
  ∀ (s : State) (f : Nat), s.Lawful → s.Accepts f .laneClear →
    let n := s.xu.frameNat f 8 1
    let cleared := ({ s.fresh.takeFrame f with
      blc := { s.blc with chute := 0, chuteCause := false } } : State).answer f 0x01 0 [byte s.blc.chute]
    let freed := ({ s.fresh.takeFrame f with
      odt := { s.odt with lanes := s.odt.lanes.set (n - 1) ⟨.free, none, 0, 0⟩ } } : State).answer f 0x01 0
        [byte (s.lane n).count]
    (n = 0 → (s.blc.running = true ∨ cleared.blc.running = false → exec .laneClear s = .next cleared) ∧
      (s.blc.running = false → cleared.blc.running = true → exec .laneClear s = .next cleared.mergeTest)) ∧
    (n ≠ 0 → (s.lane n).state = .free → exec .laneClear s = .next ((s.fresh.takeFrame f).answer f 0x01 1 [0])) ∧
    (n ≠ 0 → (s.lane n).state = .filling → exec .laneClear s = .next ((s.fresh.takeFrame f).answer f 0x22 0
      ([byte (s.lane n).count, 0] ++ le32 (s.lane n).number))) ∧
    (n ≠ 0 → (s.lane n).state = .complete ∨ (s.lane n).state = .disbanded →
      exec .laneClear s = .next freed.bind.finish ∧
      (s.odt.waiting = [] → exec .laneClear s = .next freed) ∧
      ((∀ x ∈ s.cars, x.state ≠ .idle ∧ x.state ≠ .parked) → exec .laneClear s = .next freed.bind))

/-- An accepted GLANCE or RECOUNT (R133, R134): TABLE_FULL with all 8 records in use, NOT_IN_SERVICE, or a record in the
lowest free slot with the next acceptance number. Its visit joins a carousel with fewer than 3 waiting audit visits; the
fourth is LIST_FULL and the request is held (R36). -/
def Obligations.AuditTaken : Prop :=
  ∀ (s : State) (f : Nat) (recount : Bool), s.Lawful → s.Accepts f (if recount then .recount else .glance) →
    let cmd : Instr := if recount then .recount else .glance
    let c := s.xu.frameNat f 8 1
    let whole := !recount && s.xu.frameNat f 9 1 == 1
    let bays := if recount then [s.xu.frameNat f 9 1] else glanceBays s.xu f
    let a := newAudit recount c s.aud.acceptance f whole bays
    ((∀ x ∈ s.aud.records, x ≠ none) → exec cmd s = .next ((s.fresh.takeFrame f).answer f 0x23 0 [])) ∧
    (∀ r, r < 8 → s.audit r = none → (∀ i, i < r → s.audit i ≠ none) →
      (s.inService c = false → exec cmd s = .next ((s.fresh.takeFrame f).answer f 0x25 0 [])) ∧
      (∀ k named, s.inService c = true → a.nextVisit = some (k, named) →
        (3 ≤ (s.car c).auditsWaiting → exec cmd s = .next { s.fresh.takeFrame f with
          aud := ⟨s.aud.records.set r (some { a with asking := true }), (s.aud.acceptance + 1) % 65536,
            s.aud.cadence⟩ }) ∧
        ((s.car c).auditsWaiting < 3 → (s.car c).state = .visiting → exec cmd s = .next { s.fresh.takeFrame f with
          aud := ⟨s.aud.records.set r (some { a with visit := .waiting k }), (s.aud.acceptance + 1) % 65536,
            s.aud.cadence⟩
          cars := s.cars.set (c - 1) { s.car c with
            visits := (s.car c).visits ++
              [⟨s.serial, if recount then .recount else .glance, some k, s.xu.uptime, [], some r, named, [], 0, []⟩] }
          serial := s.serial + 1 })))

/-- SERVICE at a carousel (R153, R154, R155): BUSY while one is pending; REFUSED_STATE with the carousel's state where the
sub-request is not for that state. ENTER_MAINTENANCE with a visit in progress waits for its end; else the carousel enters
MAINTENANCE at once, its drive off; with no visit, mark, store or audit to withdraw nothing else changes, and the result
gives 0 marks and the score. SET_SCORE in MAINTENANCE: the score is the value given, the warning is armed below the level
and disarmed otherwise, and the result gives both scores. (MAINTENANCE's off drive is read as unpowered, log 39.) -/
def Obligations.ServiceRefusedOrTaken : Prop :=
  ∀ (s : State) (f : Nat), s.Lawful → s.Accepts f .service →
    let c := s.xu.frameNat f 8 1
    let x := s.car c
    let n := s.xu.frameNat f 10 1
    (∀ k : ServiceKind, s.xu.frameNat f 9 1 = k.code →
      (x.service ≠ none →
        exec (DocketKind.command .service k) s = .next ((s.fresh.takeFrame f).answer f 0x20 0 [])) ∧
      (x.service = none →
        ((k = .enterMaintenance ∧
            (x.state = .offline ∨ x.state = .homing ∨ x.state = .recovering ∨ x.state = .maintenance)) ∨
          ((k = .setScore ∨ k = .leaveMaintenance) ∧ x.state ≠ .maintenance) ∨
          (k = .restore ∧ x.state ≠ .sidelined ∧ x.state ≠ .maintenance)) →
        exec (DocketKind.command .service k) s = .next ((s.fresh.takeFrame f).answer f 0x26 0 [byte x.state.code]))) ∧
    (x.service = none →
      (s.xu.frameNat f 9 1 = 0 →
        (x.state = .visiting ∨ (x.state = .locked ∧ x.interrupted = some .visiting) →
          exec .enterMaintenance s = .next { s.fresh.takeFrame f with
            cars := s.cars.set (c - 1) { x with service := some ⟨f, .enterMaintenance⟩ } }) ∧
        (x.state = .idle ∨ x.state = .parked ∨ x.state = .sidelined ∨
            (x.state = .locked ∧ x.interrupted ≠ some .visiting) →
          (∃ t, exec .enterMaintenance s = .next t ∧ (t.car c).state = .maintenance ∧ (t.car c).service = none ∧
            (t.car c).drive = none ∧ (t.car c).score = x.score ∧ ∀ v ∈ (t.car c).visits, v.kind = .tidy) ∧
          (x.visits = [] → (s.stb.removeMarks (ofCarousel c)).2 = [] → (s.pauOf c).store = none →
            (∀ a, some a ∈ s.aud.records → a.carousel ≠ c) →
            exec .enterMaintenance s = .next (({ s.fresh.takeFrame f with
              cars := s.cars.set (c - 1) { x with
                state := .maintenance, interrupted := none, sub := none, drive := none, powered := false
                brakeHeld := true, moveTarget := none, pass := none, idle := none, brake := none, provisional := none
                watchdog := none, gateStop := none, service := none } } : State).answer f 0x01 0
                  [0, 0, byte x.score])))) ∧
      (s.xu.frameNat f 9 1 = 1 → x.state = .maintenance →
        exec .setScore s = .next (({ s.fresh.takeFrame f with
          cars := s.cars.set (c - 1) { x with score := n, warnArmed := decide (n < s.cfg.warning) } } : State).answer
            f 0x01 0 [byte x.score, byte n])))

/-- LEAVE_MAINTENANCE and RESTORE go to work (R154, R155, R156): the carousel enters HOMING, or with nothing held
RECOVERING, with a home pass from rest; while a lock cause stands the pass is held back and RESTORE waits; with a tyre of
a bay at the port in the gripper RESTORE first sets it down there, and the carousel keeps its state. -/
def Obligations.LeaveAndRestoreBegin : Prop :=
  ∀ (s : State) (f : Nat), s.Lawful → s.Accepts f .service →
    let c := s.xu.frameNat f 8 1
    let x := s.car c
    x.service = none →
    (s.xu.frameNat f 9 1 = 2 → x.state = .maintenance →
      (x.lockCause = true → exec .leaveMaintenance s = .next { s.fresh.takeFrame f with
        cars := s.cars.set (c - 1) { x with
          service := some ⟨f, .leaveMaintenance⟩, state := .homing, pass := some ⟨false, x.offset.isNone, 0⟩ } }) ∧
      (x.lockCause = false → exec .leaveMaintenance s = .next { s.fresh.takeFrame f with
        cars := s.cars.set (c - 1) { x with
          service := some ⟨f, .leaveMaintenance⟩, state := .homing, pass := some ⟨true, x.offset.isNone, 0⟩
          drive := some ⟨.forward, .creep⟩, powered := true, brakeHeld := false, watchdog := some ⟨0, 12450⟩ } })) ∧
    (s.xu.frameNat f 9 1 = 3 → x.state = .sidelined ∨ x.state = .maintenance →
      (x.lockCause = true → exec .restore s = .next { s.fresh.takeFrame f with
        cars := s.cars.set (c - 1) { x with service := some ⟨f, .restore⟩, stage := some .waiting } }) ∧
      (x.lockCause = false → s.fresh.holding c = false → exec .restore s = .next { s.fresh.takeFrame f with
        cars := s.cars.set (c - 1) { x with
          service := some ⟨f, .restore⟩, state := .recovering, stage := some .recovery, passCount := 0
          pass := some ⟨true, x.offset.isNone, 0⟩, drive := some ⟨.forward, .creep⟩, powered := true
          brakeHeld := false, watchdog := some ⟨0, 12450⟩ } }) ∧
      (∀ e b, x.lockCause = false → x.visits = [] → (s.stb.car c).gripper = some ⟨e, .bay b⟩ →
        x.offset = some (carrierOf b) → ∃ t, exec .restore s = .next t ∧ (t.car c).state = x.state ∧
          (t.car c).stage = some .tidy ∧ (t.car c).port.cmd = some (.setDown (.bay b)) ∧
          t.outs = [.gripper c (.setDown (.bay b))] ∧ t.stb = s.stb))

/-- The three queries (R19, R20, R117, R182); nothing but the frame changes. BAY READ of a bay, the rack (place 40) or the
gripper (place 41): 8 bytes for each entry, top first, zeros after them, and the summary. STOCK QUERY: an undefined
article is refused; else the batch keys from the starting week on, at most 16 with a bit for more. ORDER QUERY: an unknown
number is refused; else the order's lines and state. (The bytes of a STOCK QUERY's list part beyond its items keep what
the host wrote: the model's reading, log 20.) -/
def Obligations.QueriesReply : Prop :=
  ∀ (s : State) (f : Nat), s.Lawful →
    (s.Accepts f .bayRead →
      let c := s.xu.frameNat f 8 1
      let b := s.xu.frameNat f 9 1
      let x := s.stb.car c
      let y := x.bay b
      let item := fun (e : Entry) (origin : Nat) => le16 e.label.article ++ [byte e.label.date.year,
        byte e.label.date.week, byte ((e.mark.map (·.slot)).getD 255), byte ((e.mark.map (·.line)).getD 0), byte origin, 0]
      let reply := fun (list summary : List Byte) => Host.Outcome.next (ρ := Refusal) (φ := Fault)
        { s.fresh with xu := (s.takeFrame f).xu.frameReturn f ((list ++ List.replicate 96 0).take 96) 0x01 0 summary }
      (b < 40 → exec .bayRead s = reply (y.stack.flatMap fun e => item e 255)
        ([byte y.stack.length] ++ le16 y.height ++ le16 y.load ++
          [byte (y.held.getD 255), match y.suspect with | none => 0 | some .variance => 1 | some .identity => 2] ++
          le16 ((x.bay (b / 2 * 2)).load + (x.bay (b / 2 * 2 + 1)).load) ++ le16 x.imbalance)) ∧
      (b = 40 → exec .bayRead s = reply (x.rack.flatMap fun e => item e.entry e.origin) [byte x.rack.length]) ∧
      (b = 41 → x.gripper = none → exec .bayRead s = reply [] [0, 0]) ∧
      (∀ e b', b = 41 → x.gripper = some ⟨e, .bay b'⟩ → exec .bayRead s = reply (item e b') [1, 1]) ∧
      (∀ e b', b = 41 → x.gripper = some ⟨e, .rack b'⟩ → exec .bayRead s = reply (item e b') [1, 2]) ∧
      (∀ e, b = 41 → x.gripper = some ⟨e, .infeed⟩ → exec .bayRead s = reply (item e 255) [1, 3])) ∧
    (s.Accepts f .stockQuery →
      let a := s.xu.frameNat f 8 2
      let keys := s.stb.batch.filter fun x => x.key.article == a
      let list := keys.filter fun x => decide (s.xu.frameNat f 10 2 ≤ x.key.week)
      ((s.stb.article a).defined = false →
        exec .stockQuery s = .next ((s.fresh.takeFrame f).answer f 0x29 0 [])) ∧
      ((s.stb.article a).defined = true → exec .stockQuery s = .next { s.fresh with
        xu := (s.takeFrame f).xu.frameReturn f
          ((list.take 16).flatMap fun x =>
            [byte x.key.date.year, byte x.key.date.week] ++ le16 x.onHand ++ le16 x.reserved)
          0x01 (if 16 < list.length then 1 else 0)
          ([byte (min 16 list.length), 0] ++ le16 keys.length ++ le16 (keys.map (·.onHand)).sum ++
            le16 (keys.map (·.reserved)).sum) })) ∧
    (s.Accepts f .orderQuery →
      (s.slotOf (s.xu.frameNat f 8 4) = none →
        exec .orderQuery s = .next ((s.fresh.takeFrame f).answer f 0x06 0 [])) ∧
      (∀ i o, s.slotOf (s.xu.frameNat f 8 4) = some i → s.order i = some o →
        exec .orderQuery s = .next { s.fresh with
          xu := (s.takeFrame f).xu.frameReturn f
            (((o.lines.flatMap fun (l : Line) => le16 l.article ++ [byte l.quantity, byte l.reserved, byte l.inTransit,
              byte l.delivered, byte l.unfilled, byte l.lost]) ++ List.replicate 64 0).take 64)
            0x01 o.timedOut.toNat
            ([byte i, match o.state with | .laneWait => 0 | .picking => 1 | .closing => 2 | .cancelling => 3,
              byte (o.lane.getD 0), byte o.priority] ++ le32 o.seq ++ le16 (o.elapsed / 100)) }))

/-! ### Carousel motion, home passes and locks -/

/-- R26: the direction of the shorter distance, forward when both are 10; no move where the carrier is at the port; the
steps of a visit. A move starts in creep where the imbalance exceeds its limit, else in full speed (R27), and its watchdog
runs from 0 to 1.5 times the planned time plus 3.0 s, the planned time 1.0 s and 1.5 s or 4.0 s a step (R28). -/
def Obligations.StepsDirectionAndMove : Prop :=
  (∀ o k, o < 20 → k < 20 →
    stepsBetween o k = min ((k + 20 - o) % 20) ((o + 20 - k) % 20) ∧
    (((k + 20 - o) % 20) ≤ ((o + 20 - k) % 20) → directionTo o k = .forward) ∧
    (((o + 20 - k) % 20) < ((k + 20 - o) % 20) → directionTo o k = .reverse) ∧
    ((k : Int) - o) % 20 = ((k + 20 - o) % 20 : Nat) ∧ ((o : Int) - k) % 20 = ((o + 20 - k) % 20 : Nat) ∧
    (stepsBetween o k = 0 ↔ k = o)) ∧
  (∀ (s : State) (c o k : Nat), c - 1 < s.cars.length → (s.car c).offset = some o →
    (k = o → s.setOut c (some k) = s.atPort c) ∧
    (k ≠ o →
      let m : DriveMode := if s.cfg.imbalanceLimit < (s.stb.car c).imbalance then .creep else .full
      let planned := 100 + stepsBetween o k * (if m = .creep then 400 else 150)
      s.setOut c (some k) = s.setCar c { s.car c with
        sub := some .moving, moveTarget := some k, drive := some ⟨directionTo o k, m⟩, powered := true
        brakeHeld := false, watchdog := some ⟨0, planned * 3 / 2 + 300⟩ }) ∧
    (∀ v : Visit, (s.visitKeys c v)[2]? = some (match v.target with | some k => stepsBetween o k | none => 0)))

/-- The selection pass (R38, R39, R40), where no visit has just ended with an empty plan. The choice is a waiting visit
that is considered (every kind in RUNNING, tidy visits otherwise) and names no bay HELD by another record, and no such
visit precedes it by the keys of R39 in turn: effective class, order priority, steps, creation time, target, class of the
record, kind, acceptance number; none is chosen only where there is none. At the end of a brake release the provisional
choice, or where it is gone or no longer eligible the choice of a new pass, starts (R32): the carousel is VISITING with
the visit in progress and no timer of rest; a placement visit grips at the infeed; a cadence glance of a carrier at the
port settles its first GAUGE, and of another carrier begins its move; a recount whose room check holds takes its audit
hold and grips its bay (R139, R140). That SETUP considers tidy visits only, as R38 has it in HALTING and HALTED, is the
model's reading (log 11). -/
def Obligations.SelectionChoosesAndStarts : Prop :=
  ∀ (s : State) (c o : Nat), s.skip = [] →
    let x := s.car c
    x.offset = some o →
    let ok := fun (v : Visit) => (s.xu.mode = .running ∨ v.kind = .tidy) ∧
      ∀ b ∈ v.namedBays, ∀ r, (s.stb.bay c b).held = some r → v.audit = some r
    let recordClass := fun (v : Visit) => match v.kind with
      | .tidy => 0 | .lift => 1 | .placement => 2 | .glance => 3 | .recount => 3
    let kindRank := fun (v : Visit) => match v.kind with
      | .tidy => 0 | .lift => 1 | .placement => 2 | .glance => 3 | .recount => 4
    let keys := fun (v : Visit) => [
      if v.kind = .tidy then 0 else if 300 < s.xu.uptime - v.created then 1 else recordClass v,
      if v.kind = .lift then
        (v.demands.map fun d => match s.order d.slot with | some o => o.priority | none => 3).foldl min 3 else 3,
      match v.target with | some k => stepsBetween o k | none => 0,
      v.created,
      match v.target with | some k => k + 1 | none => 0,
      recordClass v, kindRank v,
      match v.audit.bind s.audit with | some a => a.acceptance | none => 65536]
    (s.choice c = none ↔ ∀ v ∈ x.visits, ¬ ok v) ∧
    (∀ v, s.choice c = some v → v ∈ x.visits ∧ ok v ∧ ∀ w ∈ x.visits, ok w → keysLe (keys v) (keys w) = true) ∧
    (∀ v, s.Lawful → s.configured c = true → x.state = .parked → x.brake ≠ none → x.lockCause = false →
      let kept := x.visits.find? fun w => some w.id == x.provisional
      (kept = some v ∧ ok v) ∨ ((∀ w, kept = some w → ¬ ok w) ∧ s.choice c = some v) →
      let started := fun (actions : List Action) => { x with
        state := .visiting, visits := x.visits.filter (fun w => w.id != v.id)
        current := some { v with demands := [], actions := actions }
        idle := none, brake := none, provisional := none, port := { Port.reset with unrecorded := x.port.unrecorded } }
      let cadence := fun (k : Nat) => v.kind = .glance ∧ v.audit = none ∧ v.target = some k ∧ v.bays = [2 * k, 2 * k + 1]
      (v.kind = .placement → v.actions = [.intake] → v.target = none → v.audit = none →
        exec (.brakeReleaseEnd c) s = .next { s.fresh with
          cars := s.cars.set (c - 1) { started [.intake] with
            sub := some .atPort, brakeHeld := true
            port := { (started []).port with cmd := some .gripInfeed, actionLimit := some 0, phase := .gripping } }
          outs := [.gripper c .gripInfeed] }) ∧
      (cadence o → exec (.brakeReleaseEnd c) s = .next { s.fresh with
        cars := s.cars.set (c - 1) { started [.gauge (2 * o), .gauge (2 * o + 1)] with
          sub := some .atPort, brakeHeld := true
          port := { (started []).port with phase := .gauging, gauge := .settling 0 } } }) ∧
      (∀ k, k ≠ o → cadence k → exec (.brakeReleaseEnd c) s = .next { s.fresh with
        cars := s.cars.set (c - 1) { started [.gauge (2 * k), .gauge (2 * k + 1)] with
          sub := some .moving, moveTarget := some k, drive := some ⟨directionTo o k, s.driveMode c⟩, powered := true
          brakeHeld := false, watchdog := some ⟨0, moveLimit (stepsBetween o k) (s.driveMode c)⟩ } }) ∧
      (∀ r a b, v.kind = .recount → v.audit = some r → s.audit r = some a → a.recount = true → a.gripped = false →
        a.recallTaken = false → v.target = some o → b / 2 = o → v.bays = [b, sisterOf b] →
        (s.stb.bay c b).stack.length + (s.stb.bay c (sisterOf b)).stack.length ≤ 12 →
        (s.stb.bay c b).height + (s.stb.bay c (sisterOf b)).height ≤ 1600 →
        exec (.brakeReleaseEnd c) s = .next { s.fresh with
          stb := s.stb.hold c r [b, sisterOf b]
          aud := { s.aud with
            records := s.aud.records.set r (some { a with visit := .inProgress o, phase := .pass1, gripped := true }) }
          cars := s.cars.set (c - 1) { started [.recountTake b] with
            sub := some .atPort, brakeHeld := true
            port := { (started []).port with cmd := some (.gripStack b), actionLimit := some 0, phase := .gripping } }
          outs := [.gripper c (.gripStack b)] }))

/-- A carousel that stands SIDELINED at rest (R22; its off drive is read as unpowered, log 39). -/
def sidelinedAtRest (x : Car) : Car :=
  { x with
    state := .sidelined, interrupted := none, sub := none, drive := none, powered := false, brakeHeld := true
    moveTarget := none, pass := none, idle := none, brake := none, provisional := none, watchdog := none
    gateStop := none }

/-- A carrier-index pulse (R24, R25, R28, R29, R159). Without a running drive it changes nothing. In a home pass it steps
the offset and counts; home ends a seek. In a move it steps the offset; short of the target it goes on, or stops a gated
move; at the target of a LIFT the drive stops and the LIFT begins. The twentieth pulse of a revolution in RECOVERING is a
clean pass (R156): the pass count rises by one and the score falls by 16, to no less than 0; at 0 the carousel is IDLE,
RECOVERED is captured with passes and carrier and RESTORE returns DONE with the passes; above 0 the next pass begins from
rest, and after the eighth the carousel is SIDELINED and RECOVERY_FAILED is captured and returned with the cause
SCORE_REMAINS. (The off drive of a stopped gated move and of SIDELINED is read as unpowered, the model's reading, log 39.) -/
def Obligations.IndexPulseSteps : Prop :=
  ∀ (s : State) (c : Nat) (home : Bool), s.Lawful → s.configured c = true →
    let x := s.car c
    (x.drive = none → exec (.carrierIndex c home) s = .next s.fresh) ∧
    (∀ d n, x.drive = some d → x.pass = some ⟨true, true, n⟩ → x.offset = none →
      (home = true → exec (.carrierIndex c home) s = .next { s.fresh with cars := s.cars.set (c - 1) { x with
        offset := some 0, pass := some ⟨true, false, 0⟩, watchdog := some ⟨0, 12300⟩ } }) ∧
      (home = false → n + 1 < 20 → exec (.carrierIndex c home) s = .next { s.fresh with
        cars := s.cars.set (c - 1) { x with pass := some ⟨true, true, n + 1⟩ } })) ∧
    (∀ d o, x.drive = some d → x.offset = some o → o < 20 →
      let o' := match d.dir with | .forward => (o + 1) % 20 | .reverse => (o + 19) % 20
      (∀ n, x.pass = some ⟨true, false, n⟩ → n + 1 < 20 → home = decide (o' = 0) →
        exec (.carrierIndex c home) s = .next { s.fresh with
          cars := s.cars.set (c - 1) { x with offset := some o', pass := some ⟨true, false, n + 1⟩ } }) ∧
      (x.pass = none → (home = true → o' = 0) → x.moveTarget ≠ some o' →
        (x.gateStop = none → exec (.carrierIndex c home) s = .next { s.fresh with
          cars := s.cars.set (c - 1) { x with offset := some o' } }) ∧
        (x.gateStop ≠ none → exec (.carrierIndex c home) s = .next { s.fresh with
          cars := s.cars.set (c - 1) { x with
            offset := some o', drive := none, brakeHeld := true, gateStop := none, powered := false } })) ∧
      (∀ v m b depth, x.pass = none → (home = true → o' = 0) → x.moveTarget = some o' → x.lockCause = false →
        x.current = some v → v.actions.head? = some (.lift m b depth false) → carrierOf b = o' →
        ((s.stb.bay c b).stack.head?).map (·.mark) = some (some m) →
        exec (.carrierIndex c home) s = .next { s.fresh with
          cars := s.cars.set (c - 1) { x with
            offset := some o', drive := none, brakeHeld := true, watchdog := none, gateStop := none, moveTarget := none
            sub := some .atPort
            port := { x.port with
              phase := .gripping, cmd := some (.gripStack b), held := none, actionLimit := some 0 } }
          outs := [.gripper c (.gripStack b)] }) ∧
      (∀ f, x.state = .recovering → x.pass = some ⟨true, false, 19⟩ → home = decide (o' = 0) → x.lockCause = false →
        x.service = some ⟨f, .restore⟩ → x.visits = [] →
        let n := x.score - 16
        let passes := x.passCount + 1
        let late := if s.xu.hand f = .work true then 128 else 0
        let scored := { x with
          offset := some o', score := n, warnArmed := x.warnArmed || decide (n < s.cfg.warning), passCount := passes }
        (n = 0 → exec (.carrierIndex c home) s = .next (({ s.fresh with
          xu := s.xu.capture (c - 1) 0x08 [byte passes, byte o']
          cars := s.cars.set (c - 1) { scored with
            state := .idle, interrupted := none, sub := none, drive := none, powered := true, brakeHeld := true
            pass := none, watchdog := none, gateStop := none, idle := some 0, service := none
            stage := none } } : State).answer f 0x01 late [byte passes])) ∧
        (n ≠ 0 → passes < 8 → exec (.carrierIndex c home) s = .next { s.fresh with
          cars := s.cars.set (c - 1) { scored with
            pass := some ⟨true, false, 0⟩, drive := some ⟨.forward, .creep⟩, powered := true, brakeHeld := false
            watchdog := some ⟨0, 12450⟩, gateStop := none } }) ∧
        (n ≠ 0 → 8 ≤ passes → exec (.carrierIndex c home) s = .next (({ s.fresh with
          xu := s.xu.capture (c - 1) 0x09 [6, 0, byte passes, byte n]
          cars := s.cars.set (c - 1) { sidelinedAtRest scored with
            service := none, stage := none } } : State).answer f 0x10 late [6, 0, byte passes, byte n]))))

/-- The twentieth revolution pulse at home ends the last awaited homing of a START clean (R30, R172): the carousel is
IDLE, the mode RUNNING with its event, the belt's stop cause MODE is removed, and START returns one outcome per carousel. -/
def Obligations.LastHomingEndsStart : Prop :=
  ∀ (s : State) (c o : Nat) (d : Drive) (w : StartWork), s.Lawful → s.configured c = true →
    let x := s.car c
    x.state = .homing → x.drive = some d → x.pass = some ⟨true, false, 19⟩ → x.offset = some o →
    (match d.dir with | .forward => (o + 1) % 20 | .reverse => (o + 19) % 20) = 0 →
    x.service = none → x.visits = [] → s.xu.start = some w → w.awaited = [c] → (∀ l ∈ s.blc.spurs, l = []) →
    exec (.carrierIndex c true) s = .next (({ s.fresh with
      xu := { s.xu with start := none, mode := .running, events := { s.xu.events with mode := true } }
      blc := { s.blc with modeCause := false }
      cars := s.cars.set (c - 1) { x with
        state := .idle, interrupted := none, sub := none, offset := some 0, drive := none, powered := true
        brakeHeld := true, pass := none, watchdog := none, gateStop := none, idle := some 0 } } : State).answer w.frame 0x01
          (if s.xu.hand w.frame = .work true then 128 else 0) ((w.outcomes.set (c - 1) 1).map byte))

/-- An opening of the safety gate (R158, R159). It adds GATE; with another cause standing that is all. Else a carousel at
rest in service is LOCKED; a visit's move goes on in creep to the next pulse, a command outstanding is withdrawn and a
GAUGE discarded; a home pass is abandoned; out of service nothing more changes. (LOCKED's drive off is read as unpowered,
log 39, while an abandoned pass leaves the drive powered as it was, log 52: the model's readings. A carousel that is not
configured records its gate too, where R23 has its lines read by no block: the model's reading, log 12.) -/
def Obligations.GateOpenLocks : Prop :=
  ∀ (s : State) (c : Nat), s.Lawful → 1 ≤ c → c ≤ 12 →
    let x := s.car c
    let after := fun (y : Car) => Host.Outcome.next (ρ := Refusal) (φ := Fault) { s.fresh with
      lines := { s.fresh.lines with cars := s.fresh.lines.cars.set (c - 1) { s.fresh.carLines c with gateOpen := true } }
      cars := s.cars.set (c - 1) { y with gateCause := true } }
    let port : Port := { x.port with
      gauge := .idle, cmd := none
      held := match x.port.cmd with | some k => some ⟨k, true⟩ | none => x.port.held
      actionLimit := match x.port.cmd with | some _ => none | none => x.port.actionLimit }
    (x.lockCause = true → exec (.gateOpen c) s = after x) ∧
    (x.lockCause = false → x.current = none → x.state = .idle ∨ x.state = .parked ∨ x.state = .visiting →
      exec (.gateOpen c) s = after { x with
        state := .locked, interrupted := some x.state, powered := false, brakeHeld := true }) ∧
    (∀ v d, x.lockCause = false → x.state = .visiting → x.current = some v → x.drive = some d →
      exec (.gateOpen c) s = after { x with
        state := .locked, interrupted := some .visiting, drive := some ⟨d.dir, .creep⟩, gateStop := some 0, port := port }) ∧
    (∀ v, x.lockCause = false → x.state = .visiting → x.current = some v → x.drive = none →
      exec (.gateOpen c) s = after { x with
        state := .locked, interrupted := some .visiting, powered := false, port := port }) ∧
    (x.lockCause = false → x.state = .homing ∨ x.state = .recovering → exec (.gateOpen c) s = after { x with
      drive := none, brakeHeld := true, watchdog := none, gateStop := none
      pass := x.pass.map fun p => { p with begun := false } }) ∧
    (x.lockCause = false → x.state = .offline ∨ x.state = .sidelined ∨ x.state = .maintenance → x.stage ≠ some .tidy →
      exec (.gateOpen c) s = after x)

/-- The next action begins with a gripper command at the carrier that stands at the port, offset `o` (R46, R49, R141). -/
def NextGrips (t : Stb) (c o : Nat) (cmd : GripCmd) : List Action → Prop
  | .lift m b _ false :: _ =>
    cmd = .gripStack b ∧ carrierOf b = o ∧ ((t.bay c b).stack.head?).bind (·.mark) = some m
  | .back _ :: _ => cmd = .gripRack ∧ ∃ e l, (t.car c).rack = e :: l ∧ carrierOf e.origin = o
  | .recountReturn b :: _ => cmd = .gripStack (sisterOf b) ∧ carrierOf b = o
  | _ => False

/-- A carousel whose action has ended and whose next one has begun with a gripper command. -/
def gripsNext (x : Car) (v : Visit) (rest : List Action) (cmd : GripCmd) : Car :=
  { x with
    current := some { v with actions := rest, index := v.index + 1 }
    port := { x.port with cmd := some cmd, held := none, actionLimit := some 0, phase := .gripping } }

/-- A closing of the safety gate (R33, R158, R159). It removes GATE; with ESTOP standing that is all. Else a carousel
LOCKED at rest without waiting visits is IDLE with its idle timer from 0, or PARKED with its brake release from 0; a home
pass begins again from rest; a withdrawn GRIP_STACK without a load is given again, and with one it is taken as answered
GOT; a withdrawn SET_DOWN with a load is given again, and a SHIFT's without one is taken as answered DONE, its next action
beginning; a GAUGE begins again with its settle; a SET_DOWN on the spur that was kept back is given, its action limit from
0 (the model's choice, log 13); a move that has not reached its target is planned afresh; a RESTORE that waits, with
nothing held, begins its recovery (R155, R156); else out of service nothing more changes. (That LOCKED's drive was
unpowered and is powered again at the release is the model's reading, log 39, and that a carousel that is not configured
records its gate too, beside R23, is log 12.) -/
def Obligations.GateCloseUnlocks : Prop :=
  ∀ (s : State) (c : Nat) (load : Bool), s.Lawful → 1 ≤ c → c ≤ 12 →
    let x := s.car c
    let restocked := fun (t : Stb) (y : Car) (outs : List Out) =>
      Host.Outcome.next (ρ := Refusal) (φ := Fault) { s.fresh with
        lines := { s.fresh.lines with
          cars := s.fresh.lines.cars.set (c - 1) { s.fresh.carLines c with gateOpen := false, load := load } }
        stb := t, cars := s.cars.set (c - 1) { y with gateCause := false }, outs := outs }
    let after := restocked s.stb
    (x.gateCause = false ∨ x.estopCause = true → exec (.gateClose c load) s = after x []) ∧
    (x.gateCause = true → x.estopCause = false →
      (x.state = .offline ∨ x.state = .sidelined ∨ x.state = .maintenance → x.stage = none →
        exec (.gateClose c load) s = after x []) ∧
      (x.state = .locked → x.interrupted = some .idle → x.visits = [] → exec (.gateClose c load) s = after { x with
        state := .idle, interrupted := none, sub := none, powered := true, brakeHeld := true, idle := some 0 } []) ∧
      (x.state = .locked → x.interrupted = some .parked → x.brake ≠ none → exec (.gateClose c load) s = after { x with
        state := .parked, interrupted := none, brake := some 0, brakeHeld := false, powered := true } []) ∧
      (x.state = .locked → x.interrupted = some .parked → x.brake = none → x.visits = [] →
        exec (.gateClose c load) s = after { x with state := .parked, interrupted := none } []) ∧
      (x.state = .homing ∨ x.state = .recovering → exec (.gateClose c load) s = after { x with
        pass := some ⟨true, x.offset.isNone, 0⟩, drive := some ⟨.forward, .creep⟩, powered := true, brakeHeld := false
        watchdog := some ⟨0, 12450⟩ } []) ∧
      (∀ b, x.state = .locked → x.interrupted = some .visiting → x.sub ≠ some .moving → load = false →
        x.port.held = some ⟨.gripStack b, true⟩ → exec (.gateClose c load) s = after { x with
          state := .visiting, interrupted := none, gateStop := none, powered := true
          port := { x.port with held := none, cmd := some (.gripStack b), actionLimit := some 0 } }
            [.gripper c (.gripStack b)]) ∧
      (∀ d, x.state = .locked → x.interrupted = some .visiting → x.sub ≠ some .moving → d ≠ .infeed →
        (load = true ∧ x.port.held = some ⟨.setDown d, true⟩) ∨
          (d = .spur ∧ x.port.phase = .setting .normal ∧ x.port.held = some ⟨.setDown d, false⟩ ∧
            ∃ m b depth void, x.action = some (.lift m b depth void)) →
        exec (.gateClose c load) s = after { x with
          state := .visiting, interrupted := none, gateStop := none, powered := true
          port := { x.port with held := none, cmd := some (.setDown d), actionLimit := some 0 } }
            [.gripper c (.setDown d)]) ∧
      (x.state = .locked → x.interrupted = some .visiting → x.sub ≠ some .moving →
        let y := { x with state := .visiting, interrupted := none, gateStop := none, powered := true }
        (∀ v a b e rest, load = true → x.port.held = some ⟨.gripStack b, true⟩ → x.current = some v →
          v.actions.head? = some a → takesFrom b a = true → b < 40 → (s.stb.car c).gripper = none →
          (s.stb.bay c b).stack = e :: rest →
          exec (.gateClose c load) s = restocked { s.stb with stock := s.stb.stock.set (c - 1) { s.stb.car c with
              bays := (s.stb.car c).bays.set b { s.stb.bay c b with
                stack := rest, height := s.stb.height rest, load := s.stb.load rest }
              gripper := some ⟨e, .bay b⟩ } }
            { y with
              current := some { v with taken := v.taken ++ [b] }
              port := { x.port with
                held := none, phase := .scanning, scan := .first, scanLimit := some 0, unrecorded := none } } []) ∧
        (∀ v b dest rest d o cmd, load = false → x.port.held = some ⟨.setDown d, true⟩ → x.current = some v →
          v.actions = .shift b dest :: rest → x.port.phase = .setting .normal → d = .bay (sisterOf b) ∨ d = .rack →
          x.offset = some o →
          let setDown := match d with | .bay b' => s.stb.setDownBay c b' | _ => s.stb.setDownRack c
          NextGrips setDown c o cmd rest →
          exec (.gateClose c load) s = restocked setDown (gripsNext y v rest cmd) [.gripper c cmd]) ∧
        (x.port.held = none → x.port.phase = .gauging → exec (.gateClose c load) s =
          after { y with port := { x.port with gauge := .settling 0 } } [])) ∧
      (∀ k o, x.state = .locked → x.interrupted = some .visiting → x.sub = some .moving → x.moveTarget = some k →
        x.offset = some o → k ≠ o → exec (.gateClose c load) s = after { x with
          state := .visiting, interrupted := none, gateStop := none
          drive := some ⟨directionTo o k, s.driveMode c⟩, powered := true, brakeHeld := false
          watchdog := some ⟨0, moveLimit (stepsBetween o k) (s.driveMode c)⟩ } []) ∧
      (x.state = .sidelined ∨ x.state = .maintenance → x.stage = some .waiting → load = false →
        (s.stb.car c).gripper = none → (s.stb.car c).rack = [] → x.recountReturn = none →
        exec (.gateClose c load) s = after { x with
          state := .recovering, passCount := 0, stage := some .recovery, pass := some ⟨true, x.offset.isNone, 0⟩
          drive := some ⟨.forward, .creep⟩, powered := true, brakeHeld := false, watchdog := some ⟨0, 12450⟩ } []))

/-- An assertion of the emergency stop (R129, R158): ESTOP is set as an event, at every carousel and at the belt, which
stops; a carousel in service is LOCKED and its drive stops, a home pass is abandoned, and out of service only the cause
changes. Its release sets the event and removes the cause at every carousel and at the belt; where every carousel is out
of service or has its gate open, and no spur asks for a merge, nothing more changes. -/
def Obligations.EstopLocksAndReleases : Prop :=
  (∀ s : State, s.Lawful → ∃ t, exec .estopAssert s = .next t ∧
      t = { s.fresh with
        xu := { s.xu with events := { s.xu.events with estop := true } }, lines := { s.fresh.lines with estop := true }
        blc := { s.blc with estopCause := true }, cars := t.cars } ∧
      t.blc.running = false ∧ t.cars.length = 12 ∧
      ∀ c, 1 ≤ c → c ≤ 12 →
        (t.car c).estopCause = true ∧ (t.car c).gateCause = (s.car c).gateCause ∧
        ((s.car c).lockCause = true → (t.car c).state = (s.car c).state) ∧
        ((s.car c).lockCause = false →
          (((s.car c).state = .idle ∨ (s.car c).state = .parked ∨ (s.car c).state = .visiting) →
            (t.car c).state = .locked ∧ (t.car c).interrupted = some (s.car c).state ∧
            ((s.car c).current ≠ none → (t.car c).drive = none ∧ (t.car c).port.cmd = none) ∧
            (t.car c).watchdog = (s.car c).watchdog) ∧
          (((s.car c).state = .homing ∨ (s.car c).state = .recovering) →
            (t.car c).state = (s.car c).state ∧ (t.car c).drive = none ∧ (t.car c).watchdog = none) ∧
          (((s.car c).state = .offline ∨ (s.car c).state = .sidelined ∨ (s.car c).state = .maintenance) →
            (s.car c).stage ≠ some .tidy → t.car c = { s.car c with estopCause := true }))) ∧
  (∀ (s : State) (loads : List Bool), s.Lawful → loads.length = 12 → s.fresh.requesters = [] →
      (∀ x ∈ s.cars, x.gateCause = true ∨
        ((x.state = .offline ∨ x.state = .sidelined ∨ x.state = .maintenance) ∧ x.stage = none)) →
      exec (.estopRelease loads) s = .next { s.fresh with
        xu := { s.xu with events := { s.xu.events with estop := true } }
        lines := { s.fresh.lines with
          estop := false, cars := (s.fresh.lines.cars.zip loads).map fun l => { l.1 with load := l.2 } }
        blc := { s.blc with estopCause := false }
        cars := s.cars.map fun x => { x with estopCause := false } })

/-- Timers of a carousel, and the uptime. The 4.0 s of a gated move without a pulse stop the drive and leave the offset
(R159). An IDLE carousel whose idle timer ends is PARKED with its drive unpowered (R31); a PARKED one whose visit is gone
at the brake's end is IDLE with its idle timer from 0 (R32). Without the timer, or while a lock cause stands, nothing
changes (the model's choice, log 3). The drive that a gated move's end leaves off is read as unpowered (log 39). A whole
second adds one to the uptime (R171), which goes on past 2^32 - 1 (the model's choice, log 4). -/
def Obligations.TimersAct : Prop :=
  (∀ s : State, s.Lawful → exec .uptimeTick s = .next { s.fresh with xu := { s.xu with uptime := s.xu.uptime + 1 } }) ∧
  (∀ (s : State) (c : Nat), s.Lawful → s.configured c = true →
    let x := s.car c
    ((s.car c).gateStop = none → exec (.gateStopTimeout c) s = .next s.fresh) ∧
    ((s.car c).gateStop ≠ none → exec (.gateStopTimeout c) s = .next { s.fresh with
      cars := s.cars.set (c - 1) { s.car c with
        drive := none, brakeHeld := true, gateStop := none, powered := false } }) ∧
    (x.state = .idle → x.idle ≠ none → x.lockCause = false → exec (.idleTimerExpiry c) s = .next { s.fresh with
      cars := s.cars.set (c - 1) { x with state := .parked, idle := none, powered := false, brakeHeld := true } }) ∧
    (x.state ≠ .idle ∨ x.idle = none ∨ x.lockCause = true → exec (.idleTimerExpiry c) s = .next s.fresh) ∧
    (x.state = .parked → x.brake ≠ none → x.lockCause = false → x.visits = [] →
      exec (.brakeReleaseEnd c) s = .next { s.fresh with
        cars := s.cars.set (c - 1) { x with
          state := .idle, interrupted := none, sub := none, powered := true, brakeHeld := true, idle := some 0
          brake := none, provisional := none } }) ∧
    (x.state ≠ .parked ∨ x.brake = none ∨ x.lockCause = true → exec (.brakeReleaseEnd c) s = .next s.fresh))

/-! ### Work at the port -/

/-- GOT (R10, R43, R44, R45). To the GRIP_STACK of a LIFT or SHIFT it takes the bay's top entry into the gripper, with the
bay's height and load recomputed, and asks for a scan. To a GRIP_RACK it takes the rack's top entry, and the SET_DOWN on
its origin bay is given (R49). To a GRIP_INFEED it asks for a scan, and the Stock Table is told nothing. Nor is it of a
recount's takes (R139 to R141): a pass 1 grip asks for a scan and a return's SET_DOWN is given, and each leaves the
gripped bay as the unrecorded-grip place. -/
def Obligations.GotTakesTopEntry : Prop :=
  ∀ (s : State) (c b : Nat) (load : Bool) (v : Visit) (a : Action), s.Lawful → s.configured c = true →
    let x := s.car c
    x.current = some v → v.actions.head? = some a →
    let t := { s.fresh with
      lines := { s.fresh.lines with cars := s.fresh.lines.cars.set (c - 1) { s.fresh.carLines c with load := load } } }
    let scans := { x.port with
      cmd := none, actionLimit := none, phase := .scanning, scan := .first, scanLimit := some 0 }
    let sets := fun (cmd : GripCmd) => { x.port with
      cmd := some cmd, held := none, actionLimit := some 0, phase := .setting .normal }
    (∀ e rest, b < 40 → takesFrom b a = true → x.port.cmd = some (.gripStack b) →
      (s.stb.car c).gripper = none → (s.stb.bay c b).stack = e :: rest →
      exec (.gripperGot c load) s = .next { t with
        stb := { s.stb with stock := s.stb.stock.set (c - 1) { s.stb.car c with
          bays := (s.stb.car c).bays.set b { s.stb.bay c b with
            stack := rest, height := s.stb.height rest, load := s.stb.load rest }
          gripper := some ⟨e, .bay b⟩ } }
        cars := s.cars.set (c - 1) { x with
          current := some { v with taken := v.taken ++ [b] }, port := { scans with unrecorded := none } } }) ∧
    (∀ e rest, x.port.cmd = some .gripRack → x.lockCause = false → (s.stb.car c).gripper = none →
      (s.stb.car c).rack = e :: rest →
      exec (.gripperGot c load) s = .next { t with
        stb := { s.stb with stock := s.stb.stock.set (c - 1) { s.stb.car c with
          rack := rest, gripper := some ⟨e.entry, .rack e.origin⟩ } }
        cars := s.cars.set (c - 1) { x with port := { sets (.setDown (.bay e.origin)) with unrecorded := none } }
        outs := [.gripper c (.setDown (.bay e.origin))] }) ∧
    (x.port.cmd = some .gripInfeed →
      exec (.gripperGot c load) s = .next { t with cars := s.cars.set (c - 1) { x with port := scans } }) ∧
    (∀ b', a = .recountTake b' → x.port.cmd = some (.gripStack b) → exec (.gripperGot c load) s = .next { t with
      cars := s.cars.set (c - 1) { x with port := { scans with unrecorded := some (.bay b) } } }) ∧
    (∀ b', a = .recountReturn b' → x.port.cmd = some (.gripStack b) → x.lockCause = false →
      exec (.gripperGot c load) s = .next { t with
        cars := s.cars.set (c - 1) { x with
          port := { sets (.setDown (.bay b')) with unrecorded := some (.bay b) } }
        outs := [.gripper c (.setDown (.bay b'))] })

/-- EMPTY to a pass 1 grip of a recount is full success; with tyres moved, pass 2 begins: as many returns from the sister
bay, the first of them given at once (R140, R141). (That the record keeps the moved count of this moment for its result is
the model's reading beside R144, log 16.) The evaluation behind pass 2 (R142, R143): the new stack of b is the found list;
of each key its marks, ranked by admission sequence and line, go to its entries from the top down, and those beyond them
are withdrawn; the difference list holds the keys whose counts differ. Where the stack replacement is MAP_FULL only the
record changes; else the new stack stands, the withdrawn marks are counted and handed to the Reservation Engine, and with
a difference or a changed order RECOUNT_CHANGE is captured (its zeros where only the order changed are the model's choice,
log 48). (A mark whose slot holds no order ranks behind all others: the model's choice, log 32.) -/
def Obligations.EmptyEndsPassOne : Prop :=
  (∀ (s : State) (c b r n : Nat) (load : Bool) (v : Visit) (a : AuditRec), s.Lawful → s.configured c = true →
    let x := s.car c
    x.lockCause = false → x.offset = some (carrierOf b) → x.current = some v → v.actions = [.recountTake b] →
    v.audit = some r → s.audit r = some a → a.moved = n + 1 → x.port.cmd = some (.gripStack b) →
    exec (.gripperEmpty c load) s = .next { s.fresh with
      lines := { s.fresh.lines with cars := s.fresh.lines.cars.set (c - 1) { s.fresh.carLines c with load := load } }
      aud := { s.aud with
        records := s.aud.records.set r (some { a with pass1Done := true, phase := .pass2, movedAtEnd := n + 1 }) }
      cars := s.cars.set (c - 1) { x with
        current := some { v with actions := List.replicate (n + 1) (.recountReturn b), index := v.index + 1 }
        port := { x.port with
          cmd := some (.gripStack (sisterOf b)), held := none, actionLimit := some 0, phase := .gripping } }
      outs := [.gripper c (.gripStack (sisterOf b))] }) ∧
  (∀ (s : State) (r b : Nat) (a : AuditRec), s.audit r = some a → a.bays = [b] →
    let c := a.carousel
    let old := (s.stb.bay c b).stack
    let rank := fun (m : Mark) => [match s.order m.slot with | some o => o.seq | none => 4294967296, m.line]
    let marks := fun (k : Label) => rankBy rank ((old.filter fun e => e.label == k).filterMap (·.mark))
    let found := fun (k : Label) => (a.found.filter fun l => l == k).length
    let diffs := ((firstOnes (a.found ++ old.map (·.label))).map fun k =>
      (⟨k, countKey k old, found k⟩ : Difference)).filter fun d => d.recorded != d.found
    let changed := diffs.isEmpty && old.map (·.label) != a.found
    let gone := (firstOnes (old.map (·.label))).flatMap fun k => (marks k).drop (found k)
    let settled : AuditRec := { a with phase := .settling, diffs := diffs, orderChanged := changed }
    ∃ new : List Entry, new.map (·.label) = a.found ∧
      (∀ k, (new.filter fun e => e.label == k).map (·.mark) =
        ((marks k).take (found k)).map some ++ List.replicate (found k - (marks k).length) none) ∧
      (s.stb.replace c b new = none → s.evaluate r a = { s with
        aud := { s.aud with records := s.aud.records.set r (some { settled with code := 0x0C }) } }) ∧
      (∀ t made ended, s.stb.replace c b new = some (t, made, ended) → s.evaluate r a = { s with
        stb := t
        aud := { s.aud with
          records := s.aud.records.set r (some { settled with
            code := 0x01, withdrawn := gone.length, reseek := !gone.isEmpty }) }
        rse := (s.handOver .recount none (some r) gone).rse
        xu := if diffs = [] ∧ changed = false then s.xu else s.xu.capture 13 0x23 ([byte c, byte b,
          byte255 diffs.length] ++ (match diffs with
            | d :: _ => d.key.bytes ++ [byte d.recorded, byte d.found]
            | [] => [0, 0, 0, 0, 0, 0]) ++ [byte255 gone.length] ++ le16 (65536 + a.found.length - old.length)) }))

/-- A carousel whose visit has ended cleanly (R41, R149): drive off, brake held, the port at rest, the score one less, the
warning armed below its level. -/
def endedClean (x : Car) (warning : Nat) : Car :=
  { x with
    current := none, drive := none, brakeHeld := true, watchdog := none, gateStop := none, moveTarget := none
    port := Port.reset, score := x.score - 1, warnArmed := x.warnArmed || decide (x.score - 1 < warning) }

/-- That carousel IDLE, with nothing chosen behind the visit (R31, R41). -/
def idleAfter (x : Car) (warning : Nat) : Car :=
  { endedClean x warning with state := .idle, interrupted := none, sub := none, powered := true, idle := some 0 }

/-- DONE ends an action, and the next one begins with its gripper command (R43, R44). A LIFT's set-down on the spur hands
the tyre off (R12, R46, R47, R107, R119): the entry leaves stock, the line's reserved count falls, its in-transit count
rises and the week index joins its held list, an order left with nothing reserved is CLOSING with its timer paused (R112),
the record with lane and priority joins the spur and a merge is tried, and the demand leaves the visit. A SHIFT's set-down
on its sister bay or the rack, a BACK's, a tidy PLACE on a bay or the rack, and the set-down that ends an identity slip
put the gripper's entry there (R11, R48 to R51). In a recount (R140, R141) a tyre read and set on the sister bay joins the
found list and the moved count, and the next is gripped; a stopped pass 1 goes on to pass 2; a tyre brought back lowers
the moved count, and in a tidy visit the recount return. The last action ends the visit cleanly (R41, R62, R63): with
nothing held no tidy visit is asked for, and with nothing waiting the carousel is IDLE; a gripper's tyre taken from the
rack and set on it again calls for a tidy visit, which starts at once with its BACK (that the first had none is the
model's choice, log 53). -/
def Obligations.DoneEndsAction : Prop :=
  ∀ (s : State) (c o : Nat) (load : Bool) (v : Visit) (a : Action) (rest : List Action) (d : Dest) (cmd : GripCmd),
    s.Lawful → s.configured c = true →
    let x := s.car c
    x.lockCause = false → x.offset = some o → x.current = some v → v.actions = a :: rest →
    x.port.cmd = some (.setDown d) →
    let t := { s.fresh with
      lines := { s.fresh.lines with cars := s.fresh.lines.cars.set (c - 1) { s.fresh.carLines c with load := load } } }
    let y := { x with port := { x.port with unrecorded := none } }
    let ends := fun (u : State) => exec (.gripperDone c load) s = .next u
    (∀ m b depth void h order, a = .lift m b depth void → d = .spur → x.port.phase = .setting .normal →
      (s.stb.car c).gripper = some h → s.order m.slot = some order → order.line m.line ≠ none →
      NextGrips (s.stb.leave c) c o cmd rest →
      let lifted := order.modLine m.line fun l => { l with
        reserved := l.reserved - 1, inTransit := l.inTransit + 1, held := l.held ++ [h.entry.label.week] }
      let counted := if order.state = .picking ∧ (∀ l ∈ lifted.lines, l.reserved = 0) then
          { lifted with state := .closing, run := .paused } else lifted
      let record : SpurRec := ⟨m.slot, m.line, h.entry.label, order.lane.getD 0, order.priority⟩
      let handed := ({ t with
        stb := s.stb.leave c, odt := { s.odt with orders := s.odt.orders.set m.slot (some counted) }
        blc := { s.blc with spurs := s.blc.spurs.set (c - 1) (s.spur c ++ [record]) } } : State).mergeTest
      ends { handed with
        cars := handed.cars.set (c - 1)
          (gripsNext x { v with demands := dropFirst (fun e => e.isFor m && e.bay == b) v.demands } rest cmd)
        outs := handed.outs ++ [.gripper c cmd] }) ∧
    (let setDown := match d with | .bay b => s.stb.setDownBay c b | _ => s.stb.setDownRack c
      NextGrips setDown c o cmd rest →
      let onward := fun (z : Car) =>
        ends { t with stb := setDown, cars := s.cars.set (c - 1) (gripsNext z v rest cmd), outs := [.gripper c cmd] }
      (∀ b dest, a = .shift b dest → x.port.phase = .setting .normal → d = .bay (sisterOf b) ∨ d = .rack → onward x) ∧
      (∀ b b', a = .back b → x.port.phase = .setting .normal → d = .bay b' → onward x) ∧
      (∀ b, x.port.phase = .setting .slip → d = .bay b → onward x) ∧
      (a = .place d → v.kind = .tidy → x.port.phase = .setting .normal → d = .rack ∨ (∃ b, d = .bay b) →
        onward (if (s.stb.car c).gripper.isSome then x else y))) ∧
    (∀ b r q, a = .recountTake b → carrierOf b = o → v.audit = some r → s.audit r = some q → q.gripped = true →
      let written := fun (q' : AuditRec) (acts : List Action) (cmd : GripCmd) => ends { t with
        aud := { s.aud with records := s.aud.records.set r (some q') }
        cars := s.cars.set (c - 1) (gripsNext y v acts cmd), outs := [.gripper c cmd] }
      (∀ l, x.port.phase = .setting (.found l) →
        written { q with found := q.found ++ [l], moved := q.moved + 1 } [.recountTake b] (.gripStack b)) ∧
      (∀ why n, x.port.phase = .setting (.stop why) → q.moved = n + 1 →
        written { q with stop := some why, phase := .pass2, movedAtEnd := n + 1 }
          (List.replicate (n + 1) (.recountReturn b)) (.gripStack (sisterOf b)))) ∧
    (∀ b, a = .recountReturn b → x.port.phase = .setting .normal → NextGrips s.stb c o cmd rest →
      (∀ r q, v.audit = some r → s.audit r = some q → ends { t with
        aud := { s.aud with records := s.aud.records.set r (some { q with moved := q.moved - 1 }) }
        cars := s.cars.set (c - 1) (gripsNext y v rest cmd), outs := [.gripper c cmd] }) ∧
      (∀ q, v.audit = none → x.recountReturn = some q → ends { t with
        cars := s.cars.set (c - 1) (gripsNext { y with
          recountReturn := if q.count ≤ 1 then none else some ⟨q.bay, q.count - 1⟩ } v rest cmd)
        outs := [.gripper c cmd] })) ∧
    (rest = [] → v.kind = .tidy ∨ v.kind = .lift → v.demands = [] → v.audit = none → load = false →
      x.port.phase = .setting .normal → x.state = .visiting → x.visits = [] → x.service = none → x.stage = none →
      x.recountReturn = none → (s.stb.car c).rack = [] → s.xu.mode = .running →
      (∀ b, (∃ b', a = .back b') ∨ a = .place d → d = .bay b → ends { t with
        stb := s.stb.setDownBay c b, cars := s.cars.set (c - 1) (idleAfter x s.cfg.warning) }) ∧
      (∀ e b, a = .place d → d = .rack → (s.stb.car c).gripper = some ⟨e, .rack b⟩ → b / 2 = o → ends { t with
        stb := s.stb.setDownRack c, serial := s.serial + 1, outs := [.gripper c .gripRack]
        cars := s.cars.set (c - 1) { endedClean x s.cfg.warning with
          sub := some .atPort, idle := none, brake := none, provisional := none
          current := some ⟨s.serial, .tidy, some (b / 2), s.xu.uptime, [], none, [], [.back b], 0, []⟩
          port := { Port.reset with
            cmd := some .gripRack, actionLimit := some 0, phase := .gripping, unrecorded := x.port.unrecorded } } }))

/-- DONE to the set-down of a placement (R11, R50, R72, R77). On a bay the entry is the bay's top, the store's count rises
and the bay is its last; with the declared number placed the store is ending DONE; with placement verification on the
GAUGE begins. With it off the visit ends cleanly (R41), and so it does at a set-down on the infeed, where the tyre is sent
away by a reject pulse: with nothing held and nothing waiting the carousel is IDLE, and the store goes on (R70, R79), to
its next tyre once its infeed is EMPTY, or it is ending and returns its result and counts, a tyre at the infeed sent back. -/
def Obligations.DonePlacesTyre : Prop :=
  ∀ (s : State) (c : Nat) (load : Bool) (v : Visit) (st : Store), s.Lawful → s.configured c = true →
    let x := s.car c
    x.lockCause = false → x.current = some v → v.kind = .placement → x.port.phase = .setting .normal →
    (s.pauOf c).store = some st →
    let t := { s.fresh with
      lines := { s.fresh.lines with cars := s.fresh.lines.cars.set (c - 1) { s.fresh.carLines c with load := load } } }
    let put := fun (b : Nat) (h : Holding) => { s.stb with stock := s.stb.stock.set (c - 1) { s.stb.car c with
      bays := (s.stb.car c).bays.set b { s.stb.bay c b with
        stack := h.entry :: (s.stb.bay c b).stack, height := s.stb.height (h.entry :: (s.stb.bay c b).stack)
        load := s.stb.load (h.entry :: (s.stb.bay c b).stack) }
      gripper := none } }
    let placed := fun (b : Nat) => { st with
      stored := st.stored + 1, lastBay := some b
      state := if st.stored + 1 = st.declared ∧ st.state = .placing then .ending .done else st.state }
    (∀ b h, b < 40 → x.offset = some (carrierOf b) → x.port.cmd = some (.setDown (.bay b)) →
      (s.stb.car c).gripper = some h → v.actions = [.place (.bay b), .gauge b] →
      exec (.gripperDone c load) s = .next { t with
        stb := put b h
        pau := s.pau.set (c - 1) { s.pauOf c with store := some (placed b) }
        cars := s.cars.set (c - 1) { x with
          current := some { v with actions := [.gauge b], index := v.index + 1 }
          port := { x.port with cmd := none, actionLimit := none, phase := .gauging, gauge := .settling 0 } } }) ∧
    (v.audit = none → load = false → x.state = .visiting → x.visits = [] → x.service = none → x.stage = none →
      x.recountReturn = none → (s.stb.car c).rack = [] → (s.pauOf c).requestHeld = false → s.xu.mode = .running →
      let goesOn := fun (u : Stb) (st' : Store) (outs : List Out) =>
        let ended := { t with stb := u, cars := s.cars.set (c - 1) (idleAfter x s.cfg.warning), outs := outs }
        (st'.state = .placing → (s.pauOf c).occupied = true → exec (.gripperDone c load) s =
          .next { ended with pau := s.pau.set (c - 1) { s.pauOf c with store := some st' } }) ∧
        (st'.state = .placing → (s.pauOf c).occupied = false → exec (.gripperDone c load) s = .next { ended with
          pau := s.pau.set (c - 1) { s.pauOf c with
            store := some { st' with state := .waitingArrival }, arrival := some 0 } }) ∧
        (∀ r, st'.state = .ending r → exec (.gripperDone c load) s = .next (({ ended with
          pau := s.pau.set (c - 1) { s.pauOf c with store := none, arrival := none, requestHeld := false }
          outs := outs ++ if s.fresh.infeed c then [.reject c] else [] } : State).answer st'.frame r.code
            st'.overrun.toNat
            [byte st'.stored, byte255 st'.refused, byte st'.variance, byte (st'.lastBay.getD 255)]))
      (∀ b h, b < 40 → x.port.cmd = some (.setDown (.bay b)) → (s.stb.car c).gripper = some h →
        v.actions = [.place (.bay b)] → goesOn (put b h) (placed b) []) ∧
      (x.port.cmd = some (.setDown .infeed) → (s.stb.car c).gripper = none → v.actions = [.place .infeed] →
        goesOn s.stb st [.reject c]))

/-- The port scanner (R45, R47). A report with no scan asked for is ignored. A first NO_READ asks for a second scan, its
limit from 0. A scan of a LIFT's tyre that matches: with room on the spur its SET_DOWN is given, kept back while a lock
cause stands (the model's choice, log 13); with 2 records on the spur it waits. Another label, or a second NO_READ, in a
LIFT or SHIFT is an identity slip (R51): the bay is SUSPECT with reason IDENTITY, IDENTITY_SLIP is captured, the marks of
the bay and of its tyre in the gripper are removed with their demands and handed to the Reservation Engine, only the BACKs
of the bay stay in the action list, and the tyre goes back onto its bay. An EMPTY to the grip of a bay that is not empty
(R52) does the same without a tyre, and the next action begins. A scan of a SHIFT's tyre that matches (R48): its SET_DOWN
is given on the sister bay while that holds no reserved entry or on the rack as planned; where the sister bay now holds
one, on the rack with a BACK for it (the model's reading, log 14), or with the rack full back on its own bay; while a lock
cause stands it is kept back (log 13). A scan of an INTAKE (R73, R74): a refused tyre raises the refused count and goes
back to the infeed; so does one without a qualifying bay, the store ending NO_ROOM, or without room in the batch map, the
store ending MAP_FULL; else an entry without a mark is created in the gripper, the bay's carrier becomes the visit's
target, and the PLACE with its GAUGE follows, after a move where it needs one. A scan of a recount's pass 1 (R140):
UNREADABLE, UNKNOWN_ARTICLE and NO_ROOM set the tyre back on its bay, and else it is set on the sister bay as found. A
waiting lift visit that a slip leaves without demands leaves the list (the model's reading beside R37, log 27). The zeros
of the article read at a NO_READ are the model's choice (log 50). -/
def Obligations.ScansAndSlips : Prop :=
  ∀ (s : State) (c art year week : Nat), s.Lawful → s.configured c = true → labelOk art year week = true →
    let x := s.car c
    (x.port.scan = .none → exec (.scanNoRead c) s = .next s.fresh) ∧
    (x.port.scan = .first → exec (.scanNoRead c) s = .next { s.fresh with
      cars := s.cars.set (c - 1) { x with port := { x.port with scan := .retry, scanLimit := some 0 } } }) ∧
    (x.port.scan = .none → exec (.scanReport c art year week) s = .next s.fresh) ∧
    (∀ v m b depth void h, x.port.scan ≠ .none → x.current = some v → v.actions.head? = some (.lift m b depth void) →
      (s.stb.car c).gripper = some h → h.entry.label = ⟨art, ⟨year, week⟩⟩ →
      (2 ≤ (s.spur c).length → exec (.scanReport c art year week) s = .next { s.fresh with
        cars := s.cars.set (c - 1) { x with
          port := { x.port with scan := .none, scanLimit := none, phase := .waitRoom false } } }) ∧
      ((s.spur c).length < 2 → x.lockCause = false → exec (.scanReport c art year week) s = .next { s.fresh with
        cars := s.cars.set (c - 1) { x with
          port := { x.port with
            scan := .none, scanLimit := none, phase := .setting .normal, cmd := some (.setDown .spur), held := none
            actionLimit := some 0 } }
        outs := [.gripper c (.setDown .spur)] }) ∧
      ((s.spur c).length < 2 → x.lockCause = true → exec (.scanReport c art year week) s = .next { s.fresh with
        cars := s.cars.set (c - 1) { x with
          port := { x.port with
            scan := .none, scanLimit := none, phase := .setting .normal, held := some ⟨.setDown .spur, false⟩ } } })) ∧
    (∀ v a b e rest (read : Option Label) (recorded : Label), x.current = some v → v.actions = a :: rest →
      takesFrom b a = true → x.lockCause = false →
      let marked := s.stb.suspect c b .identity
      let r := marked.removeMarks (marked.ofBay c b)
      let hit := fun (d : Demand) => d.bay == b && r.2.any fun m => d.isFor m
      let backs := keepBacks (r.1.car c).rack b rest
      let from_ : Byte := match a with | .lift _ _ _ _ => 0 | _ => 1
      let seen := match read with | some l => l.bytes ++ [0] | none => [0, 0, 0, 0, 1]
      let slipped := fun (y : Car) (out : GripCmd) => Host.Outcome.next (ρ := Refusal) (φ := Fault) { s.fresh with
        stb := r.1
        xu := s.xu.capture 13 0x22 ([byte c, byte b, from_] ++ recorded.bytes ++ seen)
        rse := (s.handOver .identity none none r.2).rse
        cars := s.cars.set (c - 1) { y with visits := dropDemands hit x.visits }
        outs := [.gripper c out] }
      let slipVisit := { v with demands := v.demands.filter fun d => !hit d }
      let back := slipped { x with
        current := some { slipVisit with actions := a :: backs }
        port := { x.port with
          scan := .none, scanLimit := none, phase := .setting .slip, cmd := some (.setDown (.bay b)), held := none
          actionLimit := some 0 } } (.setDown (.bay b))
      ((s.stb.car c).gripper = some e → e.entry.label = recorded →
        (x.port.scan ≠ .none → read = some ⟨art, ⟨year, week⟩⟩ → recorded ≠ ⟨art, ⟨year, week⟩⟩ →
          exec (.scanReport c art year week) s = back) ∧
        (x.port.scan = .retry → read = none → exec (.scanNoRead c) s = back)) ∧
      (∀ o cmd load, x.offset = some o → x.port.cmd = some (.gripStack b) → read = none →
        ((s.stb.bay c b).stack.head?).map (·.label) = some recorded → NextGrips r.1 c o cmd backs →
        exec (.gripperEmpty c load) s = (match slipped (gripsNext x slipVisit backs cmd) cmd with
          | .next u => .next { u with lines := { s.fresh.lines with
              cars := s.fresh.lines.cars.set (c - 1) { s.fresh.carLines c with load := load } } }
          | stopped => stopped))) ∧
    (let here : Label := ⟨art, ⟨year, week⟩⟩
     let scanned : Port := { x.port with scan := .none, scanLimit := none }
     let given := fun (v : Visit) (ph : Phase) (cmd : GripCmd) => { x with
       current := some v
       port := { scanned with phase := ph, cmd := some cmd, held := none, actionLimit := some 0 } }
     let reads := fun (read : Option Label) (u : State) =>
       (x.port.scan ≠ .none → read = some here → exec (.scanReport c art year week) s = .next u) ∧
       (x.port.scan = .retry → read = none → exec (.scanNoRead c) s = .next u)
     (∀ v b dest rest h, x.current = some v → v.actions = .shift b dest :: rest →
       (s.stb.car c).gripper = some h → h.entry.label = here →
       let free := ∀ e ∈ (s.stb.bay c (sisterOf b)).stack, e.mark = none
       let sets := fun (actions : List Action) (ph : Phase) (cmd : GripCmd) => reads (some here) { s.fresh with
         cars := s.cars.set (c - 1) (given { v with actions := actions } ph cmd), outs := [.gripper c cmd] }
       (x.lockCause = false →
         (dest = .sister → free → sets v.actions (.setting .normal) (.setDown (.bay (sisterOf b)))) ∧
         (dest = .rack → sets v.actions (.setting .normal) (.setDown .rack)) ∧
         (dest = .sister → ¬ free → (s.stb.car c).rack.length < 4 →
           sets (.shift b .rack :: addBack b rest) (.setting .normal) (.setDown .rack)) ∧
         (dest = .sister → ¬ free → 4 ≤ (s.stb.car c).rack.length →
           sets v.actions (.setting .giveUp) (.setDown (.bay b)))) ∧
       (x.lockCause = true → reads (some here) { s.fresh with
         cars := s.cars.set (c - 1) { x with
           port := { scanned with
             phase := .setting .normal
             held := some ⟨.setDown (if dest = .sister then .bay (sisterOf b) else .rack), false⟩ } } })) ∧
     (∀ v st read, x.current = some v → v.actions = [.intake] → v.kind = .placement → x.lockCause = false →
       (s.pauOf c).store = some st →
       let occupied := s.fresh.infeed c = true
       let back := fun (st' : Store) => reads read { s.fresh with
         pau := s.pau.set (c - 1) { s.pauOf c with
           store := some st', returnPending := if occupied then (s.pauOf c).returnPending else true }
         cars := s.cars.set (c - 1) (
           let v' := { v with actions := [.place .infeed], index := v.index + 1 }
           if occupied then { x with
             current := some v', port := { scanned with phase := .waitInfeed, actionLimit := some 0 } }
           else given v' (.setting .normal) (.setDown .infeed))
         outs := if occupied then [] else [.gripper c (.setDown .infeed)] }
       let ending := fun (r : StoreResult) => if st.state = .placing then { st with state := .ending r } else st
       (read ≠ some st.label → back { st with refused := if st.refused + 1 < 255 then st.refused + 1 else 255 }) ∧
       (read = some st.label → s.slot c st.label = none → back (ending .noRoom)) ∧
       (∀ b, read = some st.label → s.slot c st.label = some b →
         let room := s.stb.hasKey st.label = true ∨ s.stb.batch.length < 4096
         (¬ room → back (ending .mapFull)) ∧
         (room → ∃ t : Stb,
           t.stock = s.stb.stock.set (c - 1) { s.stb.car c with gripper := some ⟨⟨st.label, none, 0⟩, .infeed⟩ } ∧
           t.articles = s.stb.articles ∧
           t.batchOf st.label =
             ⟨st.label, (s.stb.batchOf st.label).onHand + 1, (s.stb.batchOf st.label).reserved⟩ ∧
           (∀ k, k ≠ st.label → t.batchOf k = s.stb.batchOf k) ∧
           let v' := { v with
             target := some (b / 2), actions := .place (.bay b) :: (if s.cfg.verify then [.gauge b] else [])
             index := v.index + 1 }
           (x.offset = some (b / 2) → reads read { s.fresh with
             stb := t, cars := s.cars.set (c - 1) (given v' (.setting .normal) (.setDown (.bay b)))
             outs := [.gripper c (.setDown (.bay b))] }) ∧
           (∀ o, x.offset = some o → o ≠ b / 2 → reads read { s.fresh with
             stb := t
             cars := s.cars.set (c - 1) { x with
               current := some v', port := { scanned with phase := .ready }, sub := some .moving
               moveTarget := some (b / 2), drive := some ⟨directionTo o (b / 2), s.driveMode c⟩, powered := true
               brakeHeld := false, watchdog := some ⟨0, moveLimit (stepsBetween o (b / 2)) (s.driveMode c)⟩ } })))) ∧
     (∀ v b rest r a read, x.current = some v → v.actions = .recountTake b :: rest → v.audit = some r →
       s.audit r = some a → a.carousel = c → x.lockCause = false →
       let y := s.stb.bay c (sisterOf b)
       let full := fun (l : Label) => y.stack.length + a.moved = 12 ∨
         1600 < y.height + (a.found.map fun k => s.stb.pitch k.article).sum + s.stb.pitch l.article
       let sets := fun (why : SetPurpose) (b' : Nat) => reads read { s.fresh with
         cars := s.cars.set (c - 1) (given v (.setting why) (.setDown (.bay b')))
         outs := [.gripper c (.setDown (.bay b'))] }
       (read = none → sets (.stop .unreadable) b) ∧
       (∀ l, read = some l →
         ((s.stb.article l.article).defined = false → sets (.stop .unknownArticle) b) ∧
         ((s.stb.article l.article).defined = true → full l → sets (.stop .noRoom) b) ∧
         ((s.stb.article l.article).defined = true → ¬ full l → sets (.found l) (sisterOf b)))))

/-- The dig plan (R56 to R59). A bay without a pending lift has no action; a bay has at most 16; its LIFTs and the lifts
left unreachable are its pending lifts from the top down. The entries above one pending lift go to the sister bay while it
is not HELD, carries no mark and has room; else to the rack, with a BACK for each behind the LIFT and the stack in its old
order; and where the rack is full too nothing of the bay is planned and the lift is unreachable. Demands of orders that
are not PICKING stay as they are; of the others as many as there are entries with their mark on the carrier stay, at the
bay of their entry. -/
def Obligations.DigPlanReachesLifts : Prop :=
  (∀ (pitch : Nat → Nat) (held : Bool) (b : Nat) (items : List Item) (sister : List Entry) (rack : List RackEntry),
    rack.length ≤ 4 →
    let p := planBay pitch held b items sister rack
    ((∀ x ∈ items, x.lift = none) → p = ([], items.map (·.entry), sister, rack, [])) ∧
    p.1.length ≤ 16 ∧
    (p.1.filterMap fun a => match a with | .lift m _ _ _ => some m | _ => none) ++ p.2.2.2.2.map (·.mark) =
      items.filterMap (·.lift) ∧
    (∀ above x m below, items = above ++ x :: below → (∀ y ∈ above ++ below, y.lift = none) → x.lift = some m →
      (∀ e ∈ rack, e.origin ≠ b) →
      let closed := held = true ∨ (∃ e ∈ sister, e.mark ≠ none) ∨ 12 ≤ sister.length
      (held = false → (∀ e ∈ sister, e.mark = none) → (∀ y ∈ above, y.entry.mark = none) →
        sister.length + above.length ≤ 12 → above.length ≤ 15 →
        ((sister ++ above.map (·.entry)).map fun e => pitch e.label.article).sum ≤ 1600 →
        p = (above.map (fun _ => .shift b .sister) ++ [.lift m b x.depth false], below.map (·.entry),
          (above.map (·.entry)).reverse ++ sister, rack, [])) ∧
      (closed → rack.length + above.length ≤ 4 →
        p = (above.map (fun _ => .shift b .rack) ++ .lift m b x.depth false :: above.map (fun _ => .back b),
          (above ++ below).map (·.entry), sister, rack, [])) ∧
      (closed → rack.length = 4 → above ≠ [] →
        p = ([], items.map (·.entry), sister, rack, [⟨m, b, x.depth⟩])))) ∧
  (∀ (pitch : Nat → Nat) (x : CarStock) (k : Nat) (picking : Nat → Bool) (ds : List Demand),
    let p := digPlan pitch x k picking ds
    let here := (x.bay (2 * k)).stack ++ (x.bay (2 * k + 1)).stack
    (p.demands.filter fun d => !picking d.slot) = (ds.filter fun d => !picking d.slot) ∧
    (∀ m : Mark, picking m.slot = true → (p.demands.filter (·.isFor m)).length =
      min (ds.filter (·.isFor m)).length (here.filter fun e => e.mark == some m).length) ∧
    (∀ d ∈ p.demands, picking d.slot = true → ∃ e ∈ (x.bay d.bay).stack,
      e.mark = some ⟨d.slot, d.line⟩ ∧ (d.bay = 2 * k ∨ d.bay = 2 * k + 1)))

/-- The settle timer's end begins the conversions, and each of the first seven conversions below the top code is kept
(R54). Where a glance's GAUGE has another of the carrier at the port behind it and no lock cause stands, the eighth
conversion below the top code ends the GAUGE (R55, R136): with MATCH the bay loses a SUSPECT of reason VARIANCE, with
another outcome it is SUSPECT, an IDENTITY reason staying in both; a docketed glance's record takes the outcome, a cadence
glance captures a varying one as GLANCE_VARIANCE; and the next GAUGE begins. A conversion completed while none runs
changes nothing. That the settle timer's end changes nothing while no settle runs is the model's choice (log 3). -/
def Obligations.GaugeSettlesAndConverts : Prop :=
  ∀ (s : State) (c : Nat), s.Lawful → s.configured c = true →
    let x := s.car c
    (∀ n, x.port.gauge = .settling n → x.lockCause = false → exec (.settleTimerEnd c) s = .next { s.fresh with
      cars := s.cars.set (c - 1) { x with port := { x.port with gauge := .converting 0 [] } } }) ∧
    ((∀ n, x.port.gauge ≠ .settling n) → exec (.settleTimerEnd c) s = .next s.fresh) ∧
    (∀ code n codes v b, x.port.gauge = .converting n codes → x.current = some v → v.actions.head? = some (.gauge b) →
      codes.length < 7 → code + 1 < 2 ^ s.cfg.resolution → code < 4096 →
      exec (.conversionComplete c code) s = .next { s.fresh with
        cars := s.cars.set (c - 1) { x with port := { x.port with gauge := .converting n (codes ++ [code]) } } }) ∧
    (∀ code n codes v b b' rest, x.port.gauge = .converting n codes → x.current = some v →
      v.actions = .gauge b :: .gauge b' :: rest → codes.length = 7 → code + 1 < 2 ^ s.cfg.resolution → code < 4096 →
      v.kind = .glance → b < 40 → x.offset = some (b' / 2) → x.lockCause = false →
      let y := s.stb.bay c b
      let r := gaugeOutcome s.cfg.resolution y (codes ++ [code])
      let suspect := match r.1, y.suspect with
        | .match_, some .variance => none
        | .match_, q => q
        | _, q => some (q.getD .variance)
      let ended : State := { s.fresh with
        stb := s.stb.setBay c b { y with suspect := suspect }
        cars := s.cars.set (c - 1) { x with
          current := some { v with actions := .gauge b' :: rest, index := v.index + 1 }
          port := { x.port with phase := .gauging, gauge := .settling 0 } } }
      (v.audit = none → exec (.conversionComplete c code) s = .next (if r.1 = .match_ then ended else { ended with
        xu := s.xu.capture 13 0x20 ([byte c, byte b, match r.1 with
          | .match_ => 0 | .heightVar => 1 | .massVar => 2 | .bothVar => 3] ++ r.2) })) ∧
      (∀ i a, v.audit = some i → s.audit i = some a → exec (.conversionComplete c code) s = .next { ended with
        aud := { s.aud with records := s.aud.records.set i (some { a with
          outcomes := (a.bays.zip a.outcomes).map fun o => if o.1 = b then .done r.1 else o.2 }) } })) ∧
    (∀ code, (∀ n codes, x.port.gauge ≠ .converting n codes) → exec (.conversionComplete c code) s = .next s.fresh)

/-- A GAUGE's outcome by the tolerances of R55 in exact fractions: the mean of four codes times full scale over the
resolution (R53), each varying when it differs from the record by more than its tolerance; and the readings rounded to the
nearest whole number, halves up. -/
def Obligations.GaugeOutcomeByTolerance : Prop :=
  ∀ (res : Nat) (y : Bay) (h1 h2 h3 h4 l1 l2 l3 l4 : Nat),
    let d : Rat := (2 ^ res : Nat)
    let h : Rat := ((h1 + h2 + h3 + h4 : Nat) : Rat) / 4 * 2000 / d
    let l : Rat := ((l1 + l2 + l3 + l4 : Nat) : Rat) / 4 * 6000 / d
    let apart := fun (a b tol : Rat) => tol < a - b ∨ tol < b - a
    let tall := fun (t : Rat) => 10 + 3 * (y.stack.length : Rat) ≤ t ∧ 2 * 2000 / d ≤ t ∧
      (t = 10 + 3 * (y.stack.length : Rat) ∨ t = 2 * 2000 / d)
    let heavy := fun (t : Rat) => 10 + 2 * (y.load : Rat) / 100 ≤ t ∧ 2 * 6000 / d ≤ t ∧
      (t = 10 + 2 * (y.load : Rat) / 100 ∨ t = 2 * 6000 / d)
    let r := gaugeOutcome res y [h1, h2, h3, h4, l1, l2, l3, l4]
    (∀ th tl : Rat, tall th → heavy tl →
      (r.1 = .match_ ↔ ¬ apart h y.height th ∧ ¬ apart l y.load tl) ∧
      (r.1 = .heightVar ↔ apart h y.height th ∧ ¬ apart l y.load tl) ∧
      (r.1 = .massVar ↔ ¬ apart h y.height th ∧ apart l y.load tl) ∧
      (r.1 = .bothVar ↔ apart h y.height th ∧ apart l y.load tl)) ∧
    ∃ hr lr : Nat, r.2 = le16 hr ++ le16 lr ++ le16 y.height ++ le16 y.load ∧
      (hr : Rat) ≤ h + 1 / 2 ∧ h + 1 / 2 < hr + 1 ∧ (lr : Rat) ≤ l + 1 / 2 ∧ l + 1 / 2 < lr + 1

/-- Every machinery fault of a visit is captured in its carousel's notice record, if that is ARMED (R149, R160): the
fault's own kind with phase, carrier, side, visit kind and the score after the charge, or SIDELINED with the score 128
where the charge would pass 255. (Side none for an action without a bay, and carrier 0 after a slip's correction, are the
model's readings, log 18 and log 19.) So for a gripper's FAULT, the action limit, the scan limit, the completion limit,
the top code of a conversion, the watchdog of a move, and home seen at a known offset other than 0. Where a gripper's
FAULT in a lift visit sidelines a carousel that holds nothing (R62, R151): its demands and every waiting visit but a tidy
one are dropped; a waiting RECOUNT returns CAROUSEL_LOST at its removal (R144); the carousel's marks are withdrawn and
handed to the Reservation Engine; its store returns CAROUSEL_LOST with its counts (R80); SIDELINED gives the marks and the
visits withdrawn; and the carousel is SIDELINED with its drive off and the score 128. (That a removed recount returns
before the marks are withdrawn and before the store returns is the model's reading, log 51, and that the off drive is
unpowered is log 39.) -/
def Obligations.FaultsCaptureNotice : Prop :=
  ∀ (s : State) (c : Nat) (v : Visit) (a : Action) (load : Bool), s.Lawful → s.configured c = true →
    let x := s.car c
    x.lockCause = false → x.stage ≠ some .tidy → x.current = some v → v.actions.head? = some a →
    (∀ w, x.service = some w → w.kind = .enterMaintenance) →
    (s.xu.notices.getD (c - 1) Notice.reset).held = false →
    let captures := fun (i : Instr) (kind phase side : Nat) (carrier : Byte) =>
      ∃ t, exec i s = .next t ∧ (t.xu.notices.getD (c - 1) Notice.reset).held = true ∧
        (t.xu.notices.getD (c - 1) Notice.reset).stamp = s.xu.uptime ∧
        (x.score + 16 ≤ 255 → (t.xu.notices.getD (c - 1) Notice.reset).kind = kind ∧
          (t.xu.notices.getD (c - 1) Notice.reset).details.take 6 =
            [byte kind, byte phase, carrier, byte side, byte v.kind.code, byte (x.score + 16)]) ∧
        (255 < x.score + 16 → (t.xu.notices.getD (c - 1) Notice.reset).kind = 0x07 ∧
          (t.xu.notices.getD (c - 1) Notice.reset).details.take 5 =
            [byte kind, byte phase, carrier, byte side, 128])
    let here := byte (x.offset.getD 255)
    (x.port.cmd ≠ none → captures (.gripperFault c load) 3 a.phase.code a.side here) ∧
    (x.port.actionLimit ≠ none → captures (.actionLimitExpiry c load) 3 a.phase.code a.side here) ∧
    (x.port.scanLimit ≠ none → captures (.scanLimitExpiry c) 4 6 a.side here) ∧
    (∀ n codes, x.port.gauge = .converting n codes → captures (.completionLimitExpiry c) 5 7 a.side here) ∧
    (∀ n codes b, x.port.gauge = .converting n codes → a = .gauge b → 8 ≤ s.cfg.resolution → s.cfg.resolution ≤ 12 →
      captures (.conversionComplete c (2 ^ s.cfg.resolution - 1)) 5 7 a.side here) ∧
    (x.watchdog ≠ none → x.pass = none → captures (.moveWatchdogExpiry c) 1 0 255 here) ∧
    (∀ d o, x.drive = some d → x.pass = none → x.offset = some o →
      (match d.dir with | .forward => (o + 1) % 20 | .reverse => (o + 19) % 20) ≠ 0 →
      captures (.carrierIndex c true) 2 0 255 0) ∧
    (∀ b, x.service = none → v.kind = .lift → v.audit = none → 255 < x.score + 16 → x.port.cmd = some (.gripStack b) →
      load = false → (s.stb.car c).gripper = none → (s.stb.car c).rack = [] → x.recountReturn = none →
      s.xu.mode = .running →
      let r := s.stb.removeMarks (ofCarousel c)
      let gone := x.visits.filter fun w => w.kind != .tidy
      let sidelines := fun (returned : Xu) (u : State) => exec (.gripperFault c load) s = .next { u with
        lines := { s.fresh.lines with cars := s.fresh.lines.cars.set (c - 1) { s.fresh.carLines c with load := load } }
        stb := r.1
        rse := (s.handOver .sidelined (some c) none r.2).rse
        xu := returned.capture (c - 1) 0x07
          ([3, byte a.phase.code, here, byte a.side, 128] ++ le16 r.2.length ++ [byte255 gone.length])
        cars := s.cars.set (c - 1) { sidelinedAtRest x with
          visits := x.visits.filter (fun w => w.kind == .tidy), current := none, port := Port.reset, score := 128
          warnArmed := decide (128 < s.cfg.warning) } }
      let storeLost := fun (st : Store) (returned : Xu) => returned.frameReturn st.frame [] 0x0B st.overrun.toNat
        [byte st.stored, byte255 st.refused, byte st.variance, byte (st.lastBay.getD 255)]
      let emptied := { s.fresh with
        pau := s.pau.set (c - 1) { s.pauOf c with store := none, arrival := none, requestHeld := false }
        outs := if s.fresh.infeed c then [.reject c] else [] }
      ((∀ q, some q ∈ s.aud.records → q.carousel ≠ c) →
        ((s.pauOf c).store = none → sidelines s.xu s.fresh) ∧
        (∀ st, (s.pauOf c).store = some st → sidelines (storeLost st s.xu) emptied)) ∧
      (∀ st i q, (s.pauOf c).store = some st → s.audit i = some q → q.carousel = c → q.recount = true →
        q.ended = false → q.reseek = false → (∀ j q', s.audit j = some q' → q'.carousel = c → j = i) →
        (∃ w ∈ x.visits, w.kind = .recount ∧ w.audit = some i) →
        sidelines (storeLost st (s.xu.frameReturn q.frame [] 0x0B
            (2 * q.stopAtStart.toNat + 128 * q.tooLate.toNat) [byte (stopCode q.stop), byte q.movedAtEnd]))
          { emptied with aud := { s.aud with records := s.aud.records.set i none } }))

/-- A home pass that fails (R25, R29): at its watchdog's limit, at the twentieth pulse of a seek without home, or at a
pulse of a revolution with home elsewhere than at offset 0 or missing there, which sets the offset to 0. In RECOVERING
(R157) the score is 128, RECOVERY_FAILED is captured with cause, phase, pass count and score, the carousel is SIDELINED
with its drive off, and the RESTORE returns the same four bytes. In HOMING (R152), with nothing left to withdraw, the
score rises by 16, or is 128 where that would pass 255, SIDELINED is captured with the fault's kind, phase move, carrier,
no side and the score, and the carousel is SIDELINED (carrier 0 after a slip's correction, and no side, are the model's
readings, log 19 and log 18); a LEAVE_MAINTENANCE returns HOMING_FAILED with cause and score (R154), and a START that
awaits others too has its outcome SIDELINED (R30, R172). The warning is armed below its level and disarmed otherwise, and
no SCORE WARNING is asked for: the model's choice beside R150, log 17. (The off drive of SIDELINED is read as unpowered,
log 39.) -/
def Obligations.HomePassFails : Prop :=
  ∀ (s : State) (c : Nat) (p : Pass), s.Lawful → s.configured c = true →
    let x := s.car c
    x.pass = some p →
    let late := fun (f : Nat) => if s.xu.hand f = .work true then 128 else 0
    let after := fun (o : Option Nat) (n : Nat) => { sidelinedAtRest x with
      offset := o, score := n, warnArmed := decide (n < s.cfg.warning) }
    let fails := fun (i : Instr) (o : Option Nat) (cause : Nat) =>
      (∀ f, x.state = .recovering → x.service = some ⟨f, .restore⟩ →
        exec i s = .next (({ s.fresh with
          xu := s.xu.capture (c - 1) 0x09 [byte cause, 0, byte x.passCount, 128]
          cars := s.cars.set (c - 1) { after o 128 with service := none, stage := none } } : State).answer f 0x10 (late f)
            [byte cause, 0, byte x.passCount, 128])) ∧
      (x.state = .homing → (∀ v ∈ x.visits, v.kind = .tidy) → (s.stb.removeMarks (ofCarousel c)).2 = [] →
        (s.pauOf c).store = none → (∀ a, some a ∈ s.aud.records → a.carousel ≠ c) →
        let n := if 255 < x.score + 16 then 128 else x.score + 16
        let captured := s.xu.capture (c - 1) 0x07 [byte cause, 0, byte (o.getD 255), 255, byte n, 0, 0, 0]
        (∀ f, x.service = some ⟨f, .leaveMaintenance⟩ → s.xu.start = none →
          exec i s = .next (({ s.fresh with
            xu := captured, cars := s.cars.set (c - 1) { after o n with service := none, stage := none } } : State).answer
              f 0x0F (late f) [byte cause, byte n])) ∧
        (∀ w, x.service = none → s.xu.start = some w → (∃ d ∈ w.awaited, d ≠ c) →
          exec i s = .next { s.fresh with
            xu := { captured with start := some { w with
              awaited := w.awaited.filter (fun d => d != c), outcomes := w.outcomes.set (c - 1) 2 } }
            cars := s.cars.set (c - 1) (after o n) }))
    (x.watchdog ≠ none → x.lockCause = false → fails (.moveWatchdogExpiry c) x.offset 1) ∧
    (x.drive ≠ none → x.offset = none → p.pulses = 19 → fails (.carrierIndex c false) none 2) ∧
    (∀ d o home, x.drive = some d → x.offset = some o →
      home ≠ decide ((match d.dir with | .forward => (o + 1) % 20 | .reverse => (o + 19) % 20) = 0) →
      fails (.carrierIndex c home) (some 0) 2)

/-! ### Put-away -/

/-- R75: a bay qualifies for a tyre exactly when all six conditions hold on the Stock Table as it stands. -/
def Obligations.SlotQualifies : Prop :=
  ∀ (s : State) (c b : Nat) (l : Label),
    let y := s.stb.bay c b
    (s.qualifies c b l = true ↔
      (y.held = none ∧ y.suspect = none) ∧
      (∀ e ∈ y.stack, e.mark = none) ∧
      y.stack.length < 12 ∧
      y.height + s.stb.pitch l.article ≤ 1600 ∧
      (s.stb.bay c (2 * (b / 2))).load + (s.stb.bay c (2 * (b / 2) + 1)).load + s.stb.mass l.article ≤ 5000 ∧
      (y.stack = [] ∨ ∀ e ∈ y.stack, e.label = l)) ∧
    (12 ≤ y.stack.length ∨ 1600 < y.height ∨
      5000 < (s.stb.bay c (2 * (b / 2))).load + (s.stb.bay c (2 * (b / 2) + 1)).load → s.qualifies c b l = false)

/-- R76: slotting gives none only where no bay qualifies; else the qualifying bay that wins over every other by the four
keys in turn: a non-empty bay, the smaller resulting imbalance, the fewer steps, the lower carrier and then side A. -/
def Obligations.SlotChoiceByFourKeys : Prop :=
  ∀ (s : State) (c : Nat) (l : Label) (o : Nat), (s.car c).offset = some o →
    let x := s.stb.car c
    let left := ((x.bays.take 20).map (·.load)).sum
    let right := ((x.bays.drop 20).map (·.load)).sum
    let mass := s.stb.mass l.article
    let imbalance := fun b : Nat =>
      if b / 2 < 10 then ((left : Int) + mass - right).natAbs else ((left : Int) - (right + mass)).natAbs
    let steps := fun b : Nat => min ((b / 2 + 20 - o) % 20) ((o + 20 - b / 2) % 20)
    let empty := fun b : Nat => (s.stb.bay c b).stack = []
    (s.slot c l = none ↔ ∀ b, b < 40 → s.qualifies c b l = false) ∧
    (∀ b, s.slot c l = some b → b < 40 ∧ s.qualifies c b l = true ∧
      ∀ b', b' < 40 → b' ≠ b → s.qualifies c b' l = true →
        (¬ empty b ∧ empty b') ∨
        ((empty b ↔ empty b') ∧ (imbalance b < imbalance b' ∨
          (imbalance b = imbalance b' ∧ (steps b < steps b' ∨
            (steps b = steps b' ∧ (b / 2 < b' / 2 ∨ (b / 2 = b' / 2 ∧ b % 2 < b' % 2))))))))

/-- A rising edge of infeed present (R68, R69, R72). A tyre given back there is no arrival. With no store it is
unannounced: a reject pulse and a notice. At an infeed that is ready it is accepted: the store is PLACING and asks for its
placement visit, which joins or waits for the one that waits. A second tyre is an overrun, which ends a store in PLACING.
(The code of the store's state in the overrun notice is the model's choice, log 41.) -/
def Obligations.InfeedArrivals : Prop :=
  ∀ (s : State) (c : Nat), s.Lawful → s.configured c = true →
    let x := s.car c
    let p := s.pauOf c
    let t := { s.fresh with
      lines := { s.fresh.lines with cars := s.fresh.lines.cars.set (c - 1) { s.fresh.carLines c with infeed := true } } }
    (p.returnPending = true →
      exec (.infeedPresentRise c) s = .next { t with pau := s.pau.set (c - 1) { p with occupied := true } }) ∧
    (p.returnPending = false → p.store = none → exec (.infeedPresentRise c) s = .next { t with
      pau := s.pau.set (c - 1) { p with occupied := true }, outs := [.reject c]
      xu := s.xu.capture (c - 1) 0x0A [byte c, match s.xu.mode with
        | .setup => 0 | .running => 1 | .halting => 2 | .halted => 3] }) ∧
    (∀ st, p.returnPending = false → p.store = some st →
      (st.state = .waitingArrival → p.occupied = false → s.inService c = true → x.state = .visiting →
        (x.visits.any (fun v => v.kind == .placement) = true → exec (.infeedPresentRise c) s = .next { t with
          pau := s.pau.set (c - 1) { p with
            store := some { st with state := .placing }, arrival := none, occupied := true, requestHeld := true } }) ∧
        (x.visits.any (fun v => v.kind == .placement) = false → exec (.infeedPresentRise c) s = .next { t with
          pau := s.pau.set (c - 1) { p with
            store := some { st with state := .placing }, arrival := none, occupied := true, requestHeld := false }
          cars := s.cars.set (c - 1) { x with
            visits := x.visits ++ [⟨s.serial, .placement, none, s.xu.uptime, [], none, [], [.intake], 0, []⟩] }
          serial := s.serial + 1 })) ∧
      (st.state = .placing → x.placementIn = true → exec (.infeedPresentRise c) s = .next { t with
        pau := s.pau.set (c - 1) { p with
          store := some { st with overrun := true, state := .ending .overrun }, occupied := true }
        xu := s.xu.capture (c - 1) 0x0B
          ([byte c] ++ st.label.bytes ++ [byte st.declared, byte st.stored, 1]) }) ∧
      (∀ r, st.state = .ending r → exec (.infeedPresentRise c) s = .next { t with
        pau := s.pau.set (c - 1) { p with store := some { st with overrun := true }, occupied := true }
        xu := s.xu.capture (c - 1) 0x0B
          ([byte c] ++ st.label.bytes ++ [byte st.declared, byte st.stored, 2]) }))

/-- A falling edge of infeed present (R50, R70): the infeed is EMPTY and no return is pending; a store in PLACING whose
placement visit has ended waits for its next tyre, its arrival timer from 0; a PLACE that waited issues its SET_DOWN. The
arrival timer's expiry returns the store INFEED_TIMEOUT with its counts (R71, R79); that it changes nothing while no
arrival timer runs is the model's choice (log 3). -/
def Obligations.InfeedFallsAndTimesOut : Prop :=
  ∀ (s : State) (c : Nat), s.Lawful → s.configured c = true →
    let x := s.car c
    let p := s.pauOf c
    let t := { s.fresh with
      lines := { s.fresh.lines with cars := s.fresh.lines.cars.set (c - 1) { s.fresh.carLines c with infeed := false } } }
    (x.port.phase ≠ .waitInfeed → p.store = none ∨ x.placementIn = true ∨ p.requestHeld = true ∨
        (∃ st, p.store = some st ∧ st.state ≠ .placing) →
      exec (.infeedPresentFall c) s = .next { t with
        pau := s.pau.set (c - 1) { p with occupied := false, returnPending := false } }) ∧
    (∀ st, x.port.phase ≠ .waitInfeed → p.store = some st → st.state = .placing → x.placementIn = false →
      p.requestHeld = false → exec (.infeedPresentFall c) s = .next { t with
        pau := s.pau.set (c - 1) { p with
          store := some { st with state := .waitingArrival }, arrival := some 0, occupied := false
          returnPending := false } }) ∧
    (x.port.phase = .waitInfeed → x.lockCause = false → p.store = none ∨ x.placementIn = true →
      exec (.infeedPresentFall c) s = .next { t with
        pau := s.pau.set (c - 1) { p with occupied := false, returnPending := true }
        cars := s.cars.set (c - 1) { x with
          port := { x.port with
            phase := .setting .normal, cmd := some (.setDown .infeed), held := none, actionLimit := some 0 } }
        outs := [.gripper c (.setDown .infeed)] }) ∧
    ((s.pauOf c).arrival = none → exec (.arrivalTimerExpiry c) s = .next s.fresh) ∧
    (∀ st, (s.pauOf c).arrival ≠ none → (s.pauOf c).store = some st → exec (.arrivalTimerExpiry c) s =
      .next (({ s.fresh with
        pau := s.pau.set (c - 1) { s.pauOf c with store := none, arrival := none, requestHeld := false }
        outs := if (s.fresh.carLines c).infeed then [.reject c] else [] } : State).answer st.frame 0x09 st.overrun.toNat
          [byte st.stored, byte255 st.refused, byte st.variance, byte (st.lastBay.getD 255)]))

/-! ### Belt and sorter -/

/-- A test of the merge window (R121, R122). Outside the five conditions nothing changes. Within them one requesting spur
wins over every other on priority, outstanding tyres and carousel number; its head record becomes the tail of the tracking
list with a transit timer from 0, its merge gate is pulsed, the latch is spent and the guard starts; a LIFT that waited
for room on the spur issues its SET_DOWN (R47, R120). -/
def Obligations.MergeTakesRankedSpur : Prop :=
  ∀ s : State, s.Lawful →
    (¬ (s.blc.running = true ∧ s.blc.spent = false ∧ s.lines.mergeClear = true ∧ s.blc.tracking.length < 48 ∧
      s.requesters ≠ []) → s.mergeTest = s) ∧
    (s.blc.running = true ∧ s.blc.spent = false ∧ s.lines.mergeClear = true ∧ s.blc.tracking.length < 48 ∧
        s.requesters ≠ [] →
      ∃ (c : Nat) (r : SpurRec) (rest : List SpurRec), c ∈ s.requesters ∧ s.spur c = r :: rest ∧
        (∀ (d : Nat) (q : SpurRec) (l : List SpurRec), d ∈ s.requesters → s.spur d = q :: l → d ≠ c →
          let left := fun i : Nat => match s.order i with | some o => o.outstanding | none => 0
          r.priority < q.priority ∨ (r.priority = q.priority ∧ (left r.slot < left q.slot ∨
            (left r.slot = left q.slot ∧ c < d)))) ∧
        let merged := { s with
          blc := { s.blc with
            spurs := s.blc.spurs.set (c - 1) rest, tracking := s.blc.tracking ++ [⟨r, c, 0⟩], spent := true
            guard := some 0, guardStayed := true }
          outs := s.outs ++ [.mergeGate c] }
        ((∀ seen, (s.car c).port.phase ≠ .waitRoom seen) → s.mergeTest = merged) ∧
        (∀ seen, (s.car c).port.phase = .waitRoom seen → (s.car c).lockCause = false → s.mergeTest = { merged with
          cars := s.cars.set (c - 1) { s.car c with
            port := { (s.car c).port with
              phase := .setting .normal, cmd := some (.setDown .spur), held := none, actionLimit := some 0 } }
          outs := s.outs ++ [.mergeGate c, .gripper c (.setDown .spur)] }) ∧
        (∀ seen, (s.car c).port.phase = .waitRoom seen → (s.car c).lockCause = true → s.mergeTest = { merged with
          cars := s.cars.set (c - 1) { s.car c with port := { (s.car c).port with phase := .waitRoom true } } }))

/-- The events that test the merge window (R120, R121): a spur-head line rises; merge-point clear rises, which stops the
guard and opens the latch; the guard ends with the line active since the merge. A fall of merge-point clear, and the
guard's end without it, only change the belt's record. That a guard's expiry changes only the line levels while no guard
runs or the belt is STOPPED is the model's choice (log 3). -/
def Obligations.MergeEventsTestWindow : Prop :=
  ∀ (s : State) (heads : List Bool), s.Lawful → heads.length = 12 →
    let withHeads := (s.fresh.lines.cars.zip heads).map fun l => { l.1 with spurHead := l.2 }
    (∀ c, s.configured c = true → exec (.spurHeadRise c) s = .next ({ s.fresh with
      lines := { s.fresh.lines with
        cars := s.fresh.lines.cars.set (c - 1) { s.fresh.carLines c with spurHead := true } } } : State).mergeTest) ∧
    exec (.mergePointClearRise heads) s = .next ({ s.fresh with
      lines := { s.fresh.lines with mergeClear := true, cars := withHeads }
      blc := { s.blc with guard := none, guardStayed := false, spent := false } } : State).mergeTest ∧
    exec .mergePointClearFall s = .next { s.fresh with
      lines := { s.fresh.lines with mergeClear := false }, blc := { s.blc with guardStayed := false } } ∧
    (s.blc.running = true → s.blc.guard ≠ none → s.blc.guardStayed = true →
      exec (.mergeGuardExpiry heads) s = .next ({ s.fresh with
        lines := { s.fresh.lines with cars := withHeads }
        blc := { s.blc with guard := none, spent := false } } : State).mergeTest) ∧
    (s.blc.running = true → s.blc.guard ≠ none → s.blc.guardStayed = false →
      exec (.mergeGuardExpiry heads) s = .next { s.fresh with
        lines := { s.fresh.lines with cars := withHeads }, blc := { s.blc with guard := none } }) ∧
    (s.blc.running = false ∨ s.blc.guard = none →
      exec (.mergeGuardExpiry heads) s = .next { s.fresh with lines := { s.fresh.lines with cars := withHeads } })

/-- A scan at the sorter that matches one of the first four records diverts the tyre into its lane (R110, R125): the
record leaves, the line's in-transit count falls and its delivered count rises, the lane's count rises, and R112 is
applied. With a match at the head: an order with a tyre still reserved stays as it is counted; one in PICKING with none
reserved and one in transit is CLOSING with its timer paused, and one in CLOSING or CANCELLING goes on; with none reserved
and none in transit an order in PICKING or CLOSING returns DELIVERED, or DELIVERED_SHORT where a line has a tyre unfilled
or the order has timed out, and its lane is COMPLETE, while one in CANCELLING returns RECALLED and its lane is DISBANDED.
In HALTING, with the belt empty by it and every carousel without a visit, the mode becomes HALTED (R173; at rest as log 30
reads it). With a match at positions 2 to 4 the records before it are LOST (R111, R127): each line's in-transit count
falls, its lost count rises and one item of the week leaves its held list; at a CANCELLING order, or a CLOSING one that
has timed out, its unfilled count rises, and at another its line is re-sought, for the one record before position 2 with
its two outcomes; and one capture of kind LOST gives the cause SKIPPED, the number lost, the first of them and the
tracking count. -/
def Obligations.SorterDivertsMatch : Prop :=
  ∀ (s : State) (art year week : Nat) (r : TrackRec), s.Lawful → labelOk art year week = true → s.blc.running = true →
    r.spur.label = ⟨art, ⟨year, week⟩⟩ → s.fresh.requesters = [] →
    let scan := exec (.sorterScan art year week) s
    let lane := { s.lane r.spur.lane with count := (s.lane r.spur.lane).count + 1 }
    let delivers := fun (o : Order) => o.modLine r.spur.line fun l =>
      { l with inTransit := l.inTransit - 1, delivered := l.delivered + 1 }
    let after := fun (rest : List TrackRec) (orders : List (Option Order)) (y : Lane) (xu : Xu) => { s.fresh with
      xu := xu, blc := { s.blc with tracking := rest }, outs := [.divert r.spur.lane]
      odt := { s.odt with orders := orders, lanes := s.odt.lanes.set (r.spur.lane - 1) y } }
    (∀ rest o, s.blc.tracking = r :: rest → s.order r.spur.slot = some o →
      let o' := delivers o
      let takes := fun (order : Option Order) (y : Lane) (xu : Xu) =>
        let t := after rest (s.odt.orders.set r.spur.slot order) y xu
        (s.xu.mode ≠ .halting ∨ rest ≠ [] ∨ (∃ c, s.configured c = true ∧ (s.car c).current ≠ none) →
          scan = .next t) ∧
        (s.xu.mode = .halting → rest = [] → (∀ l ∈ s.blc.spurs, l = []) → (∀ x ∈ s.cars, x.current = none) →
          scan = .next { t with
            xu := { xu with mode := .halted, events := { xu.events with mode := true } }
            blc := { t.blc with modeCause := true } })
      let returned := fun (code : Nat) => s.xu.frameReturn o.frame [] code o.timedOut.toNat ([byte r.spur.slot,
        byte (o.lane.getD 0)] ++ ((o'.lines.flatMap fun (l : Line) => [byte l.delivered, byte l.unfilled]) ++
          List.replicate 16 0).take 16 ++ [byte255 (o'.total (·.lost))])
      ((∃ l ∈ o'.lines, l.reserved ≠ 0) → o.state ≠ .laneWait → takes (some o') lane s.xu) ∧
      ((∀ l ∈ o'.lines, l.reserved = 0) → (∃ l ∈ o'.lines, l.inTransit ≠ 0) →
        (o.state = .picking → takes (some { o' with state := .closing, run := .paused }) lane s.xu) ∧
        (o.state = .closing ∨ o.state = .cancelling → takes (some o') lane s.xu)) ∧
      ((∀ l ∈ o'.lines, l.reserved = 0 ∧ l.inTransit = 0) → o.lane = some r.spur.lane →
        (o.state = .picking ∨ o.state = .closing →
          takes none { lane with state := .complete, slot := none }
            (returned (if o.timedOut = false ∧ ∀ l ∈ o'.lines, l.unfilled = 0 then 0x03 else 0x04))) ∧
        (o.state = .cancelling → r.spur.lane ≤ 16 →
          takes none { lane with state := .disbanded, slot := none } (returned 0x02)))) ∧
    (∀ p first, 1 ≤ p → p ≤ 3 → s.blc.tracking[p]? = some r → s.blc.tracking.head? = some first →
      (∀ x ∈ s.blc.tracking.take p, x.spur.label ≠ r.spur.label) →
      s.xu.mode ≠ .halting ∨ p + 1 < s.blc.tracking.length →
      (∀ x ∈ r :: s.blc.tracking.take p, ∃ o, s.order x.spur.slot = some o ∧ o.state ≠ .laneWait ∧
        ∃ l ∈ o.lines, l.reserved ≠ 0) →
      let rest := s.blc.tracking.drop (p + 1)
      let change := fun (f : Order → Order) (orders : List (Option Order)) (slot : Nat) =>
        orders.set slot ((orders.getD slot none).map f)
      let less := fun (x : TrackRec) (l : Line) => { l with
        inTransit := l.inTransit - 1, lost := if l.lost + 1 < 255 then l.lost + 1 else 255
        held := l.held.erase x.spur.label.week }
      let unfilled := fun (x : TrackRec) (o : Order) => o.modLine x.spur.line fun l =>
        { less x l with unfilled := l.unfilled + 1 }
      let skips := fun (orders : List (Option Order)) (xu : Xu) =>
        after rest (change delivers orders r.spur.slot) lane (xu.capture 12 0x10 ([0, byte p, byte first.carousel,
          byte first.spur.slot, byte first.spur.line] ++ first.spur.label.bytes ++
          [byte first.spur.lane, byte255 rest.length]))
      let seeks := fun (o : Order) => o.state = .picking ∨ (o.state = .closing ∧ o.timedOut = false)
      ((∀ x ∈ s.blc.tracking.take p, ∀ o, s.order x.spur.slot = some o → ¬ seeks o) →
        scan = .next (skips ((s.blc.tracking.take p).foldl (fun orders x => change (unfilled x) orders x.spur.slot)
          s.odt.orders) s.xu)) ∧
      (∀ o l, p = 1 → s.order first.spur.slot = some o → o.line first.spur.line = some l → seeks o →
        let found := s.seek first.spur.slot first.spur.line (less first l) none fun _ => true
        (found = none → scan = .next (skips (change (unfilled first) s.odt.orders first.spur.slot)
          (s.xu.capture 14 0x30 (le32 o.number ++ [byte first.spur.slot, byte first.spur.line] ++ le16 l.article ++
            [byte255 l.quantity, 4, byte255 (l.unfilled + 1)])))) ∧
        (∀ x, found = some x → (s.car x.c).state = .visiting →
          (s.car x.c).visits.any (isLiftFor (x.b / 2)) = false →
          scan = .next { skips (change (fun o => { (o.modLine first.spur.line fun l =>
              { less first l with reserved := l.reserved + 1 }) with state := .picking, run := .running })
            s.odt.orders first.spur.slot) s.xu with
            stb := s.stb.mark (.bay x.c x.b x.d) ⟨first.spur.slot, first.spur.line⟩
            cars := s.cars.set (x.c - 1) { s.car x.c with
              visits := (s.car x.c).visits ++ [⟨s.serial, .lift, some (x.b / 2), s.xu.uptime,
                [⟨first.spur.slot, first.spur.line, x.b, x.d, x.d⟩], none, [], [], 0, []⟩] }
            serial := s.serial + 1 })))

/-- A scan that reads nothing, or matches none of the first four records, is a stray (R126): the chute divert, the chute
count and STRAY; at the count of 24 CHUTE_FULL and the belt's stop cause in its place. While the belt is STOPPED a scan is
discarded (R128). The zeros of the article read at a NO_READ are the model's choice (log 50). -/
def Obligations.SorterStraysFillChute : Prop :=
  ∀ (s : State) (read : Option Label), s.Lawful → (∀ l, read = some l → labelOk l.article l.date.year l.date.week = true) →
    let i : Instr := match read with
      | some l => .sorterScan l.article l.date.year l.date.week
      | none => .sorterNoRead
    let details := (match read with | some l => l.bytes ++ [0] | none => [0, 0, 0, 0, 1]) ++
      [byte (s.blc.chute + 1), byte255 s.blc.tracking.length]
    (s.blc.running = false → exec i s = .next s.fresh) ∧
    (s.blc.running = true → (∀ l, read = some l → ∀ r ∈ s.blc.tracking.take 4, r.spur.label ≠ l) →
      (s.blc.chute + 1 < 24 → exec i s = .next { s.fresh with
        blc := { s.blc with chute := s.blc.chute + 1 }, outs := [.divert 0], xu := s.xu.capture 12 0x11 details }) ∧
      (s.blc.chute + 1 = 24 → exec i s = .next { s.fresh with
        blc := { s.blc with chute := 24, chuteCause := true }, outs := [.divert 0]
        xu := s.xu.capture 12 0x12 details }))

/-- A transit timer's expiry (R98, R111, R124): the record is LOST with a notice; the line's in-transit count falls, its
lost count rises and one item of the week leaves its held list. At a CANCELLING order, or a CLOSING one that has timed
out, with more under way the unfilled count rises. At a PICKING order, or a CLOSING one that has not timed out, the line
is re-sought: a tyre found takes its mark, the reserved count rises, the order is PICKING with its timer running and a
lift demand goes to the tyre's carousel, where no lift visit of its carrier waits a new one; with none found and more
reserved the unfilled count rises and LINE_SHORTENED is captured. That the command changes nothing with the belt STOPPED
(log 3), or with no record at the position (log 34), is the model's choice. -/
def Obligations.TransitExpiryLosesRecord : Prop :=
  ∀ (s : State) (i : Nat), s.Lawful →
    (s.blc.running = false ∨ s.blc.tracking[i]? = none → exec (.transitTimerExpiry i) s = .next s.fresh) ∧
    (∀ r o l, s.blc.running = true → s.xu.mode = .running → s.blc.tracking[i]? = some r → s.order r.spur.slot = some o →
      o.line r.spur.line = some l → s.fresh.requesters = [] →
      let less := fun (l : Line) => { l with
        inTransit := l.inTransit - 1, lost := if l.lost + 1 < 255 then l.lost + 1 else 255
        held := l.held.erase r.spur.label.week }
      let lost := fun (u : Xu) => u.capture 12 0x10 ([1, 1, byte r.carousel, byte r.spur.slot, byte r.spur.line] ++
        r.spur.label.bytes ++ [byte r.spur.lane, byte255 (s.blc.tracking.eraseIdx i).length])
      let counted := fun (o' : Order) => { s.odt with orders := s.odt.orders.set r.spur.slot (some o') }
      let belt := { s.blc with tracking := s.blc.tracking.eraseIdx i }
      let unfilled := o.modLine r.spur.line fun l => { less l with unfilled := l.unfilled + 1 }
      let found := s.seek r.spur.slot r.spur.line (less l) none fun _ => true
      let seeks := o.state = .picking ∨ (o.state = .closing ∧ o.timedOut = false)
      (o.state = .cancelling ∨ (o.state = .closing ∧ o.timedOut = true) → (∃ m ∈ unfilled.lines, m.reserved ≠ 0) →
        exec (.transitTimerExpiry i) s = .next { s.fresh with blc := belt, odt := counted unfilled, xu := lost s.xu }) ∧
      (seeks → found = none → (∃ m ∈ unfilled.lines, m.reserved ≠ 0) →
        exec (.transitTimerExpiry i) s = .next { s.fresh with
          blc := belt, odt := counted unfilled
          xu := lost (s.xu.capture 14 0x30 (le32 o.number ++ [byte r.spur.slot, byte r.spur.line] ++ le16 l.article ++
            [byte255 l.quantity, 4, byte255 (l.unfilled + 1)])) }) ∧
      (∀ x, seeks → found = some x → (s.car x.c).state = .visiting → (s.car x.c).visits.any (isLiftFor (x.b / 2)) = false →
        exec (.transitTimerExpiry i) s = .next { s.fresh with
          blc := belt, xu := lost s.xu, stb := s.stb.mark (.bay x.c x.b x.d) ⟨r.spur.slot, r.spur.line⟩
          odt := counted { (o.modLine r.spur.line fun l => { less l with reserved := l.reserved + 1 }) with
            state := .picking, run := .running }
          cars := s.cars.set (x.c - 1) { s.car x.c with
            visits := (s.car x.c).visits ++ [⟨s.serial, .lift, some (x.b / 2), s.xu.uptime,
              [⟨r.spur.slot, r.spur.line, x.b, x.d, x.d⟩], none, [], [], 0, []⟩] }
          serial := s.serial + 1 }))

/-! ### Orders -/

/-- A pick timer's expiry (R108, R113): the order's marks are removed and counted unfilled, and with a tyre in transit and
no visit of a carousel concerned the order is CLOSING with its timed-out flag set and its timer stopped, and PICK_TIMEOUT
is captured with the number of marks released; the elapsed time then reads the pick time (the model's choice, log 3). That
the command changes nothing with the timer not running, or outside RUNNING, is the model's choice too (log 3). -/
def Obligations.PickTimerClosesOrder : Prop :=
  ∀ (s : State) (slot : Nat), s.Lawful →
    (s.xu.mode ≠ .running ∨ (∀ o, s.order slot = some o → o.run ≠ .running) →
      exec (.pickTimerExpiry slot) s = .next s.fresh) ∧
    (∀ o, s.xu.mode = .running → s.order slot = some o → o.run = .running →
      (∀ x ∈ s.cars, x.visits = [] ∧ x.current = none) → (∃ l ∈ o.lines, l.inTransit ≠ 0) →
      let r := s.stb.removeMarks (ofOrder slot [])
      exec (.pickTimerExpiry slot) s = .next { s.fresh with
        stb := r.1
        odt := { s.odt with orders := s.odt.orders.set slot (some (r.2.foldl (fun o m => o.modLine m.line fun l =>
          { l with reserved := l.reserved - 1, unfilled := l.unfilled + 1 }) { o with
            state := .closing, timedOut := true, run := .stopped, elapsed := s.cfg.pickTime * 100 })) }
        xu := s.xu.capture 14 0x31 (le32 o.number ++ [byte slot, byte (o.lane.getD 255), byte255 r.2.length,
          byte255 (o.total (·.delivered)), byte255 (o.total (·.inTransit))]) })

/-- The next single re-seek of a batch of withdrawn marks (R92, R93, R109), of the batch handed over first: R93 does not
order two batches, and first in, first out is the model's choice (log 22). A slot that holds no order, or by now another
order than the mark's (the model's reading, log 22), is GONE. A CANCELLING order's mark is RELEASED: its reserved count
falls and its unfilled count rises. With no candidate the line is SHORTENED: the same, and LINE_SHORTENED is captured. A
candidate found takes the mark, REPLACED: in LANE_WAIT and CLOSING the counts stand, in PICKING a lift demand goes to the
tyre's carousel, and in CLOSING timed out the mark is taken off again and the line counts as in SHORTENED. The batch ends
with its last mark, and a recount's batch then answers its counts to its audit record (R95, R143), which returns where its
visit has ended. With no batch nothing changes. -/
def Obligations.ReseekWithdrawnTakesNext : Prop :=
  ∀ s : State, s.Lawful →
    (s.rse = [] → exec .reseekWithdrawn s = .next s.fresh) ∧
    (∀ b w rest others, s.rse = b :: others → b.items = w :: rest →
      let m := w.mark
      let gone := ∀ o, s.order m.slot = some o → o.seq ≠ w.seq
      let after := fun (replaced shortened released : Nat) =>
        if rest.isEmpty then others else { b with
          items := rest, replaced := b.replaced + replaced, shortened := b.shortened + shortened
          released := b.released + released } :: others
      (gone → b.audit = none ∨ rest ≠ [] → exec .reseekWithdrawn s = .next { s.fresh with rse := after 0 0 0 }) ∧
      (∀ r a, gone → b.audit = some r → rest = [] → s.audit r = some a →
        let answered := { a with replaced := b.replaced, shortened := b.shortened, reseek := false }
        (a.ended = false → exec .reseekWithdrawn s = .next { s.fresh with
          rse := others, aud := { s.aud with records := s.aud.records.set r (some answered) } }) ∧
        (a.ended = true → a.code = 0x01 → exec .reseekWithdrawn s = .next (({ s.fresh with
          rse := others, aud := { s.aud with records := s.aud.records.set r none } } : State).answer a.frame 0x01
            (a.orderChanged.toNat + 128 * a.tooLate.toNat) answered.settledContents))) ∧
      (∀ o l, s.order m.slot = some o → o.seq = w.seq → o.line m.line = some l → b.audit = none ∨ rest ≠ [] →
        let less := o.modLine m.line fun l => { l with reserved := l.reserved - 1, unfilled := l.unfilled + 1 }
        let counted := fun (o' : Order) => { s.odt with orders := s.odt.orders.set m.slot (some o') }
        let under := ∃ l' ∈ less.lines, l'.reserved ≠ 0
        let found := s.seek m.slot m.line l none (fun x => some x.c != b.leaveOut)
        (o.state = .cancelling → under → exec .reseekWithdrawn s = .next { s.fresh with
          rse := after 0 0 1, odt := counted less }) ∧
        (o.state ≠ .cancelling → found = none → under → exec .reseekWithdrawn s = .next { s.fresh with
          rse := after 0 1 0, odt := counted less
          xu := s.xu.capture 14 0x30 (le32 o.number ++ [byte m.slot, byte m.line] ++ le16 l.article ++
            [byte255 l.quantity, match b.cause with
              | .identity => 0 | .recount => 1 | .sidelined => 2 | .maintenance => 3 | .lost => 4,
              byte255 (l.unfilled + 1)]) }) ∧
        (∀ x, found = some x →
          let marked := s.stb.mark (.bay x.c x.b x.d) m
          (o.state = .laneWait ∨ (o.state = .closing ∧ o.timedOut = false) → l.reserved ≠ 0 →
            exec .reseekWithdrawn s = .next { s.fresh with rse := after 1 0 0, stb := marked }) ∧
          (o.state = .picking → l.reserved ≠ 0 → (s.car x.c).state = .visiting →
            (s.car x.c).visits.any (isLiftFor (x.b / 2)) = false →
            exec .reseekWithdrawn s = .next { s.fresh with
              rse := after 1 0 0, stb := marked
              cars := s.cars.set (x.c - 1) { s.car x.c with
                visits := (s.car x.c).visits ++ [⟨s.serial, .lift, some (x.b / 2), s.xu.uptime,
                  [⟨m.slot, m.line, x.b, x.d, x.d⟩], none, [], [], 0, []⟩] }
              serial := s.serial + 1 }) ∧
          (o.state = .closing → o.timedOut = true → under → exec .reseekWithdrawn s = .next { s.fresh with
            rse := after 1 0 0, stb := marked.unmark (.bay x.c x.b x.d), odt := counted less }))))

/-! ### Cadence and uptime -/

/-- An accepted CADENCE (R146) sets the interval, starts the timer from 0 and returns the values before. The timer's
expiry (R147): a cadence glance still waiting, or a full list of audit visits, counts an overrun; else a glance of the
cursor's carrier joins and the cursor goes on. That an expiry changes nothing while the timer does not count is the
model's choice (log 3). -/
def Obligations.CadenceSetsAndAsksGlances : Prop :=
  (∀ (s : State) (f : Nat), s.Lawful → s.Accepts f .cadence →
      let c := s.xu.frameNat f 8 1
      let x := s.cadenceOf c
      exec .cadence s = .next (({ s.fresh.takeFrame f with
        aud := { s.aud with
          cadence := s.aud.cadence.set (c - 1) { x with interval := s.xu.frameNat f 9 4, elapsed := 0 } } } : State).answer
            f 0x01 0 (le32 x.interval ++ [byte x.cursor, 0] ++ le16 x.overruns))) ∧
  (∀ (s : State) (c : Nat), s.Lawful → s.configured c = true →
      let x := s.car c
      let y := s.cadenceOf c
      let counts := 0 < y.interval ∧ s.xu.mode = .running ∧ s.inService c = true
      let busy := (∃ v ∈ x.visits, v.kind = .glance ∧ v.audit = none) ∨ 3 ≤ x.auditsWaiting
      (¬ counts → exec (.cadenceTimerExpiry c) s = .next s.fresh) ∧
      (counts → busy → exec (.cadenceTimerExpiry c) s = .next { s.fresh with
        aud := { s.aud with
          cadence := s.aud.cadence.set (c - 1) { y with
            elapsed := 0, overruns := if y.overruns + 1 < 65535 then y.overruns + 1 else 65535 } } }) ∧
      (counts → ¬ busy → x.state = .visiting → exec (.cadenceTimerExpiry c) s = .next { s.fresh with
        aud := { s.aud with
          cadence := s.aud.cadence.set (c - 1) { y with elapsed := 0, cursor := (y.cursor + 1) % 20 } }
        cars := s.cars.set (c - 1) { x with
          visits := x.visits ++
            [⟨s.serial, .glance, some y.cursor, s.xu.uptime, [], none, [2 * y.cursor, 2 * y.cursor + 1], [], 0, []⟩] }
        serial := s.serial + 1 }))
end

