-- ==== Sys2Proof/Laws/Memory.lean ====
section
/-! SUPPORT. The frames' memory: every operation keeps the canonical form, and a read after a write. -/

namespace Sys2Proof.Machine

/-- A lower bound may be lowered. -/
theorem Memory.wfFrom_mono {m : List Host.Cell} {lo lo' : Nat} (h : Memory.wfFrom lo m = true) (hl : lo' ≤ lo) :
    Memory.wfFrom lo' m = true := by
  cases m with
  | nil => rfl
  | cons x m =>
    simp only [Memory.wfFrom, Bool.and_eq_true, decide_eq_true_eq] at *
    exact ⟨⟨Nat.le_trans hl h.1.1, h.1.2⟩, h.2⟩

/-- Below the bound every address reads blank. -/
theorem Memory.read_below {m : List Host.Cell} {lo a : Nat} (h : Memory.wfFrom lo m = true) (ha : a < lo) :
    Memory.read m a = Memory.blank := by
  induction m generalizing lo with
  | nil => rfl
  | cons x m ih =>
    obtain ⟨k, v⟩ := x
    simp only [Memory.wfFrom, Bool.and_eq_true, decide_eq_true_eq] at h
    have hk : k ≠ a := by omega
    simp only [Memory.read, hk, if_false]
    exact ih h.2 (by omega)

/-- A write keeps the canonical form above a bound. -/
theorem Memory.write_wfFrom {m : List Host.Cell} {lo a : Nat} (b : Byte) (h : Memory.wfFrom lo m = true) (ha : lo ≤ a) :
    Memory.wfFrom lo (Memory.write m a b) = true := by
  induction m generalizing lo with
  | nil =>
    unfold Memory.write
    split
    · rfl
    · simp_all [Memory.wfFrom]
  | cons x m ih =>
    obtain ⟨k, v⟩ := x
    simp only [Memory.wfFrom, Bool.and_eq_true, decide_eq_true_eq] at h
    obtain ⟨⟨hk, hv⟩, hm⟩ := h
    simp only [Memory.write]
    split
    · split
      · simp [Memory.wfFrom, hk, hv, hm]
      · simp only [Memory.wfFrom, Bool.and_eq_true, decide_eq_true_eq]
        exact ⟨⟨ha, by assumption⟩, ⟨⟨by omega, hv⟩, hm⟩⟩
    · split
      · split
        · exact Memory.wfFrom_mono hm (by omega)
        · simp only [Memory.wfFrom, Bool.and_eq_true, decide_eq_true_eq]
          exact ⟨⟨hk, by assumption⟩, hm⟩
      · simp only [Memory.wfFrom, Bool.and_eq_true, decide_eq_true_eq]
        exact ⟨⟨hk, hv⟩, ih hm (by omega)⟩

/-- What a read gives after a write. -/
theorem Memory.read_write_from {m : List Host.Cell} {lo : Nat} (h : Memory.wfFrom lo m = true) (a : Nat) (b : Byte)
    (x : Nat) : Memory.read (Memory.write m a b) x = if x = a then b else Memory.read m x := by
  induction m generalizing lo with
  | nil =>
    unfold Memory.write
    split
    · split <;> simp_all [Memory.read]
    · simp only [Memory.read]
      split <;> split <;> first | rfl | omega
  | cons y m ih =>
    obtain ⟨k, v⟩ := y
    simp only [Memory.wfFrom, Bool.and_eq_true, decide_eq_true_eq] at h
    obtain ⟨⟨hk, hv⟩, hm⟩ := h
    simp only [Memory.write]
    split
    · rename_i hak
      have hbelow : Memory.read ((k, v) :: m) a = Memory.blank := by
        have : k ≠ a := by omega
        simp only [Memory.read, this, if_false]
        exact Memory.read_below hm (by omega)
      split
      · by_cases hx : x = a
        · simp_all
        · simp [hx]
      · by_cases hx : x = a
        · simp [Memory.read, hx]
        · have : a ≠ x := fun e => hx e.symm
          simp [Memory.read, hx, this]
    · split
      · rename_i hak; subst hak
        split
        · by_cases hx : x = a
          · subst hx
            simp only [if_true]
            rw [Memory.read_below hm (by omega)]; simp_all
          · have : a ≠ x := fun e => hx e.symm
            simp [Memory.read, hx, this]
        · by_cases hx : x = a
          · simp [Memory.read, hx]
          · have : a ≠ x := fun e => hx e.symm
            simp [Memory.read, hx, this]
      · by_cases hx : k = x
        · have : x ≠ a := by omega
          simp [Memory.read, hx, this]
        · simp only [Memory.read, hx, if_false]
          exact ih hm

/-- A write keeps the canonical form. -/
theorem Memory.write_wf {m : List Host.Cell} (a : Nat) (b : Byte) (h : Memory.wf m = true) :
    Memory.wf (Memory.write m a b) = true := Memory.write_wfFrom b h (Nat.zero_le a)

/-- What a read gives after a write of one byte. -/
theorem Memory.read_write {m : List Host.Cell} (h : Memory.wf m = true) (a : Nat) (b : Byte) (x : Nat) :
    Memory.read (Memory.write m a b) x = if x = a then b else Memory.read m x := Memory.read_write_from h a b x

/-- A write of bytes keeps the canonical form. -/
theorem Memory.writeAll_wf {m : List Host.Cell} (a : Nat) (bs : List Byte) (h : Memory.wf m = true) :
    Memory.wf (Memory.writeAll m a bs) = true := by
  induction bs generalizing m a with
  | nil => exact h
  | cons b bs ih => exact ih _ (Memory.write_wf a b h)

/-- What a read gives after a write of bytes. -/
theorem Memory.read_writeAll {m : List Host.Cell} (h : Memory.wf m = true) (a : Nat) (bs : List Byte) (x : Nat) :
    Memory.read (Memory.writeAll m a bs) x =
      if a ≤ x ∧ x < a + bs.length then bs.getD (x - a) 0 else Memory.read m x := by
  induction bs generalizing m a with
  | nil =>
    rw [if_neg (by simp only [List.length_nil]; omega)]
    rfl
  | cons b bs ih =>
    simp only [Memory.writeAll]
    rw [ih (Memory.write_wf a b h), Memory.read_write h]
    simp only [List.length_cons]
    by_cases h1 : x = a
    · subst h1
      rw [if_neg (by omega), if_pos rfl, if_pos (by omega), Nat.sub_self]; rfl
    · by_cases h2 : a + 1 ≤ x ∧ x < a + 1 + bs.length
      · have e : x - a = (x - (a + 1)) + 1 := by omega
        rw [if_pos h2, if_pos (by omega), e, List.getD_cons_succ]
      · rw [if_neg h2, if_neg h1, if_neg (by omega)]

/-- Leaving entries out keeps the canonical form. -/
theorem Memory.wfFrom_filter {m : List Host.Cell} {lo : Nat} (p : Host.Cell → Bool) (h : Memory.wfFrom lo m = true) :
    Memory.wfFrom lo (m.filter p) = true := by
  induction m generalizing lo with
  | nil => rfl
  | cons x m ih =>
    obtain ⟨k, v⟩ := x
    simp only [Memory.wfFrom, Bool.and_eq_true, decide_eq_true_eq] at h
    simp only [List.filter_cons]
    split
    · simp only [Memory.wfFrom, Bool.and_eq_true, decide_eq_true_eq]
      exact ⟨h.1, ih h.2⟩
    · exact Memory.wfFrom_mono (ih h.2) (by omega)

/-- The commanded reset's clearing of the hand bytes keeps the canonical form. -/
theorem openHands_wf {m : List Host.Cell} (h : Memory.wf m = true) : Memory.wf (openHands m) = true :=
  Memory.wfFrom_filter _ h

/-- What a read gives after the hand bytes are cleared. -/
theorem read_openHands (m : List Host.Cell) (a : Nat) :
    Memory.read (openHands m) a = if a % 128 = 0 then 0 else Memory.read m a := by
  induction m with
  | nil => simp [openHands, Memory.read, Memory.blank]
  | cons x m ih =>
    obtain ⟨k, v⟩ := x
    simp only [openHands, List.filter_cons] at ih ⊢
    by_cases hk : k % Config.frameBytes = 0
    · simp only [hk, bne_self_eq_false, Bool.false_eq_true, if_false, ih, Memory.read]
      split
      · rfl
      · split
        · simp_all [Config.frameBytes]
        · rfl
    · have hb : (k % Config.frameBytes != 0) = true := by simpa using hk
      simp only [hb, if_true, Memory.read, ih]
      split
      · have : a % 128 ≠ 0 := by simp_all [Config.frameBytes]
        simp [this]
      · rfl

/-- Reset memory is in canonical form. -/
theorem reset_mem_wf : Memory.wf State.reset.xu.mem = true := rfl

/-! ### The Exchange Unit's operations -/

theorem Xu.writeFrame_wf {x : Xu} (f i : Nat) (bytes : List Byte) (h : Memory.wf x.mem = true) :
    Memory.wf (x.writeFrame f i bytes).mem = true := Memory.writeAll_wf _ _ h

theorem Xu.frameReturn_wf {x : Xu} (f : Nat) (l : List Byte) (code flags : Nat) (contents : List Byte)
    (h : Memory.wf x.mem = true) : Memory.wf (x.frameReturn f l code flags contents).mem = true :=
  Memory.writeAll_wf _ _ (Memory.writeAll_wf _ _ (Memory.writeAll_wf _ _ h))

/-- A capture changes the notice records and NOTICE alone. -/
theorem Xu.capture_mem (x : Xu) (r kind : Nat) (details : List Byte) : (x.capture r kind details).mem = x.mem := by
  unfold Xu.capture; dsimp only; split <;> rfl

/-- A write of a frame changes memory alone. -/
theorem Xu.writeFrame_eq (x : Xu) (f i : Nat) (bytes : List Byte) :
    x.writeFrame f i bytes = { x with mem := Memory.writeAll x.mem (frameAddr f i) bytes } := rfl

end Sys2Proof.Machine
end

