-- ==== Sys2Proof/Laws/State.lean ====
section
/-! SUPPORT. What each update of the state leaves in each field: one lemma for each field and each named update, and what
the accessors read after the update they match. -/

namespace Sys2Proof.Machine

/-! ### `setCar` -/

@[simp] theorem State.setCar_xu (s : State) (c : Nat) (x : Car) : (s.setCar c x).xu = s.xu := rfl
@[simp] theorem State.setCar_cfg (s : State) (c : Nat) (x : Car) : (s.setCar c x).cfg = s.cfg := rfl
@[simp] theorem State.setCar_stb (s : State) (c : Nat) (x : Car) : (s.setCar c x).stb = s.stb := rfl
@[simp] theorem State.setCar_cars (s : State) (c : Nat) (x : Car) : (s.setCar c x).cars = s.cars.set (c - 1) x := rfl
@[simp] theorem State.setCar_pau (s : State) (c : Nat) (x : Car) : (s.setCar c x).pau = s.pau := rfl
@[simp] theorem State.setCar_odt (s : State) (c : Nat) (x : Car) : (s.setCar c x).odt = s.odt := rfl
@[simp] theorem State.setCar_rse (s : State) (c : Nat) (x : Car) : (s.setCar c x).rse = s.rse := rfl
@[simp] theorem State.setCar_blc (s : State) (c : Nat) (x : Car) : (s.setCar c x).blc = s.blc := rfl
@[simp] theorem State.setCar_aud (s : State) (c : Nat) (x : Car) : (s.setCar c x).aud = s.aud := rfl
@[simp] theorem State.setCar_lines (s : State) (c : Nat) (x : Car) : (s.setCar c x).lines = s.lines := rfl
@[simp] theorem State.setCar_levels (s : State) (c : Nat) (x : Car) : (s.setCar c x).levels = s.levels := rfl
@[simp] theorem State.setCar_outs (s : State) (c : Nat) (x : Car) : (s.setCar c x).outs = s.outs := rfl
@[simp] theorem State.setCar_agenda (s : State) (c : Nat) (x : Car) : (s.setCar c x).agenda = s.agenda := rfl
@[simp] theorem State.setCar_skip (s : State) (c : Nat) (x : Car) : (s.setCar c x).skip = s.skip := rfl
@[simp] theorem State.setCar_serial (s : State) (c : Nat) (x : Car) : (s.setCar c x).serial = s.serial := rfl
@[simp] theorem State.setCar_free (s : State) (c : Nat) (x : Car) : (s.setCar c x).free = s.free := rfl
@[simp] theorem State.setCar_pending (s : State) (c : Nat) (x : Car) : (s.setCar c x).pending = s.pending := rfl

/-! ### `modCar` -/

@[simp] theorem State.modCar_xu (s : State) (c : Nat) (f : Car → Car) : (s.modCar c f).xu = s.xu := rfl
@[simp] theorem State.modCar_cfg (s : State) (c : Nat) (f : Car → Car) : (s.modCar c f).cfg = s.cfg := rfl
@[simp] theorem State.modCar_stb (s : State) (c : Nat) (f : Car → Car) : (s.modCar c f).stb = s.stb := rfl
@[simp] theorem State.modCar_cars (s : State) (c : Nat) (f : Car → Car) :
    (s.modCar c f).cars = s.cars.set (c - 1) (f (s.car c)) := rfl
@[simp] theorem State.modCar_pau (s : State) (c : Nat) (f : Car → Car) : (s.modCar c f).pau = s.pau := rfl
@[simp] theorem State.modCar_odt (s : State) (c : Nat) (f : Car → Car) : (s.modCar c f).odt = s.odt := rfl
@[simp] theorem State.modCar_rse (s : State) (c : Nat) (f : Car → Car) : (s.modCar c f).rse = s.rse := rfl
@[simp] theorem State.modCar_blc (s : State) (c : Nat) (f : Car → Car) : (s.modCar c f).blc = s.blc := rfl
@[simp] theorem State.modCar_aud (s : State) (c : Nat) (f : Car → Car) : (s.modCar c f).aud = s.aud := rfl
@[simp] theorem State.modCar_lines (s : State) (c : Nat) (f : Car → Car) : (s.modCar c f).lines = s.lines := rfl
@[simp] theorem State.modCar_levels (s : State) (c : Nat) (f : Car → Car) : (s.modCar c f).levels = s.levels := rfl
@[simp] theorem State.modCar_outs (s : State) (c : Nat) (f : Car → Car) : (s.modCar c f).outs = s.outs := rfl
@[simp] theorem State.modCar_agenda (s : State) (c : Nat) (f : Car → Car) : (s.modCar c f).agenda = s.agenda := rfl
@[simp] theorem State.modCar_skip (s : State) (c : Nat) (f : Car → Car) : (s.modCar c f).skip = s.skip := rfl
@[simp] theorem State.modCar_serial (s : State) (c : Nat) (f : Car → Car) : (s.modCar c f).serial = s.serial := rfl
@[simp] theorem State.modCar_free (s : State) (c : Nat) (f : Car → Car) : (s.modCar c f).free = s.free := rfl
@[simp] theorem State.modCar_pending (s : State) (c : Nat) (f : Car → Car) : (s.modCar c f).pending = s.pending := rfl

/-! ### `modPort` -/

@[simp] theorem State.modPort_xu (s : State) (c : Nat) (f : Port → Port) : (s.modPort c f).xu = s.xu := rfl
@[simp] theorem State.modPort_cfg (s : State) (c : Nat) (f : Port → Port) : (s.modPort c f).cfg = s.cfg := rfl
@[simp] theorem State.modPort_stb (s : State) (c : Nat) (f : Port → Port) : (s.modPort c f).stb = s.stb := rfl
@[simp] theorem State.modPort_cars (s : State) (c : Nat) (f : Port → Port) :
    (s.modPort c f).cars = s.cars.set (c - 1) { s.car c with port := f (s.car c).port } := rfl
@[simp] theorem State.modPort_pau (s : State) (c : Nat) (f : Port → Port) : (s.modPort c f).pau = s.pau := rfl
@[simp] theorem State.modPort_odt (s : State) (c : Nat) (f : Port → Port) : (s.modPort c f).odt = s.odt := rfl
@[simp] theorem State.modPort_rse (s : State) (c : Nat) (f : Port → Port) : (s.modPort c f).rse = s.rse := rfl
@[simp] theorem State.modPort_blc (s : State) (c : Nat) (f : Port → Port) : (s.modPort c f).blc = s.blc := rfl
@[simp] theorem State.modPort_aud (s : State) (c : Nat) (f : Port → Port) : (s.modPort c f).aud = s.aud := rfl
@[simp] theorem State.modPort_lines (s : State) (c : Nat) (f : Port → Port) : (s.modPort c f).lines = s.lines := rfl
@[simp] theorem State.modPort_levels (s : State) (c : Nat) (f : Port → Port) : (s.modPort c f).levels = s.levels := rfl
@[simp] theorem State.modPort_outs (s : State) (c : Nat) (f : Port → Port) : (s.modPort c f).outs = s.outs := rfl
@[simp] theorem State.modPort_agenda (s : State) (c : Nat) (f : Port → Port) :
    (s.modPort c f).agenda = s.agenda := rfl
@[simp] theorem State.modPort_skip (s : State) (c : Nat) (f : Port → Port) : (s.modPort c f).skip = s.skip := rfl
@[simp] theorem State.modPort_serial (s : State) (c : Nat) (f : Port → Port) :
    (s.modPort c f).serial = s.serial := rfl
@[simp] theorem State.modPort_free (s : State) (c : Nat) (f : Port → Port) :
    (s.modPort c f).free = s.free := rfl
@[simp] theorem State.modPort_pending (s : State) (c : Nat) (f : Port → Port) :
    (s.modPort c f).pending = s.pending := rfl

/-! ### `modVisit` -/

@[simp] theorem State.modVisit_xu (s : State) (c : Nat) (f : Visit → Visit) : (s.modVisit c f).xu = s.xu := rfl
@[simp] theorem State.modVisit_cfg (s : State) (c : Nat) (f : Visit → Visit) : (s.modVisit c f).cfg = s.cfg := rfl
@[simp] theorem State.modVisit_stb (s : State) (c : Nat) (f : Visit → Visit) : (s.modVisit c f).stb = s.stb := rfl
@[simp] theorem State.modVisit_cars (s : State) (c : Nat) (f : Visit → Visit) :
    (s.modVisit c f).cars = s.cars.set (c - 1) { s.car c with current := (s.car c).current.map f } := rfl
@[simp] theorem State.modVisit_pau (s : State) (c : Nat) (f : Visit → Visit) : (s.modVisit c f).pau = s.pau := rfl
@[simp] theorem State.modVisit_odt (s : State) (c : Nat) (f : Visit → Visit) : (s.modVisit c f).odt = s.odt := rfl
@[simp] theorem State.modVisit_rse (s : State) (c : Nat) (f : Visit → Visit) : (s.modVisit c f).rse = s.rse := rfl
@[simp] theorem State.modVisit_blc (s : State) (c : Nat) (f : Visit → Visit) : (s.modVisit c f).blc = s.blc := rfl
@[simp] theorem State.modVisit_aud (s : State) (c : Nat) (f : Visit → Visit) : (s.modVisit c f).aud = s.aud := rfl
@[simp] theorem State.modVisit_lines (s : State) (c : Nat) (f : Visit → Visit) :
    (s.modVisit c f).lines = s.lines := rfl
@[simp] theorem State.modVisit_levels (s : State) (c : Nat) (f : Visit → Visit) :
    (s.modVisit c f).levels = s.levels := rfl
@[simp] theorem State.modVisit_outs (s : State) (c : Nat) (f : Visit → Visit) : (s.modVisit c f).outs = s.outs := rfl
@[simp] theorem State.modVisit_agenda (s : State) (c : Nat) (f : Visit → Visit) :
    (s.modVisit c f).agenda = s.agenda := rfl
@[simp] theorem State.modVisit_skip (s : State) (c : Nat) (f : Visit → Visit) : (s.modVisit c f).skip = s.skip := rfl
@[simp] theorem State.modVisit_serial (s : State) (c : Nat) (f : Visit → Visit) :
    (s.modVisit c f).serial = s.serial := rfl
@[simp] theorem State.modVisit_free (s : State) (c : Nat) (f : Visit → Visit) :
    (s.modVisit c f).free = s.free := rfl
@[simp] theorem State.modVisit_pending (s : State) (c : Nat) (f : Visit → Visit) :
    (s.modVisit c f).pending = s.pending := rfl

/-! ### `modPau` -/

@[simp] theorem State.modPau_xu (s : State) (c : Nat) (f : Pau → Pau) : (s.modPau c f).xu = s.xu := rfl
@[simp] theorem State.modPau_cfg (s : State) (c : Nat) (f : Pau → Pau) : (s.modPau c f).cfg = s.cfg := rfl
@[simp] theorem State.modPau_stb (s : State) (c : Nat) (f : Pau → Pau) : (s.modPau c f).stb = s.stb := rfl
@[simp] theorem State.modPau_cars (s : State) (c : Nat) (f : Pau → Pau) : (s.modPau c f).cars = s.cars := rfl
@[simp] theorem State.modPau_pau (s : State) (c : Nat) (f : Pau → Pau) :
    (s.modPau c f).pau = s.pau.set (c - 1) (f (s.pauOf c)) := rfl
@[simp] theorem State.modPau_odt (s : State) (c : Nat) (f : Pau → Pau) : (s.modPau c f).odt = s.odt := rfl
@[simp] theorem State.modPau_rse (s : State) (c : Nat) (f : Pau → Pau) : (s.modPau c f).rse = s.rse := rfl
@[simp] theorem State.modPau_blc (s : State) (c : Nat) (f : Pau → Pau) : (s.modPau c f).blc = s.blc := rfl
@[simp] theorem State.modPau_aud (s : State) (c : Nat) (f : Pau → Pau) : (s.modPau c f).aud = s.aud := rfl
@[simp] theorem State.modPau_lines (s : State) (c : Nat) (f : Pau → Pau) : (s.modPau c f).lines = s.lines := rfl
@[simp] theorem State.modPau_levels (s : State) (c : Nat) (f : Pau → Pau) : (s.modPau c f).levels = s.levels := rfl
@[simp] theorem State.modPau_outs (s : State) (c : Nat) (f : Pau → Pau) : (s.modPau c f).outs = s.outs := rfl
@[simp] theorem State.modPau_agenda (s : State) (c : Nat) (f : Pau → Pau) : (s.modPau c f).agenda = s.agenda := rfl
@[simp] theorem State.modPau_skip (s : State) (c : Nat) (f : Pau → Pau) : (s.modPau c f).skip = s.skip := rfl
@[simp] theorem State.modPau_serial (s : State) (c : Nat) (f : Pau → Pau) : (s.modPau c f).serial = s.serial := rfl
@[simp] theorem State.modPau_free (s : State) (c : Nat) (f : Pau → Pau) : (s.modPau c f).free = s.free := rfl
@[simp] theorem State.modPau_pending (s : State) (c : Nat) (f : Pau → Pau) : (s.modPau c f).pending = s.pending := rfl

/-! ### `modCarLines` -/

@[simp] theorem State.modCarLines_xu (s : State) (c : Nat) (f : CarLines → CarLines) :
    (s.modCarLines c f).xu = s.xu := rfl
@[simp] theorem State.modCarLines_cfg (s : State) (c : Nat) (f : CarLines → CarLines) :
    (s.modCarLines c f).cfg = s.cfg := rfl
@[simp] theorem State.modCarLines_stb (s : State) (c : Nat) (f : CarLines → CarLines) :
    (s.modCarLines c f).stb = s.stb := rfl
@[simp] theorem State.modCarLines_cars (s : State) (c : Nat) (f : CarLines → CarLines) :
    (s.modCarLines c f).cars = s.cars := rfl
@[simp] theorem State.modCarLines_pau (s : State) (c : Nat) (f : CarLines → CarLines) :
    (s.modCarLines c f).pau = s.pau := rfl
@[simp] theorem State.modCarLines_odt (s : State) (c : Nat) (f : CarLines → CarLines) :
    (s.modCarLines c f).odt = s.odt := rfl
@[simp] theorem State.modCarLines_rse (s : State) (c : Nat) (f : CarLines → CarLines) :
    (s.modCarLines c f).rse = s.rse := rfl
@[simp] theorem State.modCarLines_blc (s : State) (c : Nat) (f : CarLines → CarLines) :
    (s.modCarLines c f).blc = s.blc := rfl
@[simp] theorem State.modCarLines_aud (s : State) (c : Nat) (f : CarLines → CarLines) :
    (s.modCarLines c f).aud = s.aud := rfl
@[simp] theorem State.modCarLines_lines (s : State) (c : Nat) (f : CarLines → CarLines) :
    (s.modCarLines c f).lines = { s.lines with cars := s.lines.cars.set (c - 1) (f (s.carLines c)) } := rfl
@[simp] theorem State.modCarLines_levels (s : State) (c : Nat) (f : CarLines → CarLines) :
    (s.modCarLines c f).levels = s.levels := rfl
@[simp] theorem State.modCarLines_outs (s : State) (c : Nat) (f : CarLines → CarLines) :
    (s.modCarLines c f).outs = s.outs := rfl
@[simp] theorem State.modCarLines_agenda (s : State) (c : Nat) (f : CarLines → CarLines) :
    (s.modCarLines c f).agenda = s.agenda := rfl
@[simp] theorem State.modCarLines_skip (s : State) (c : Nat) (f : CarLines → CarLines) :
    (s.modCarLines c f).skip = s.skip := rfl
@[simp] theorem State.modCarLines_serial (s : State) (c : Nat) (f : CarLines → CarLines) :
    (s.modCarLines c f).serial = s.serial := rfl
@[simp] theorem State.modCarLines_free (s : State) (c : Nat) (f : CarLines → CarLines) :
    (s.modCarLines c f).free = s.free := rfl
@[simp] theorem State.modCarLines_pending (s : State) (c : Nat) (f : CarLines → CarLines) :
    (s.modCarLines c f).pending = s.pending := rfl

/-! ### `modXu` -/

@[simp] theorem State.modXu_xu (s : State) (f : Xu → Xu) : (s.modXu f).xu = f s.xu := rfl
@[simp] theorem State.modXu_cfg (s : State) (f : Xu → Xu) : (s.modXu f).cfg = s.cfg := rfl
@[simp] theorem State.modXu_stb (s : State) (f : Xu → Xu) : (s.modXu f).stb = s.stb := rfl
@[simp] theorem State.modXu_cars (s : State) (f : Xu → Xu) : (s.modXu f).cars = s.cars := rfl
@[simp] theorem State.modXu_pau (s : State) (f : Xu → Xu) : (s.modXu f).pau = s.pau := rfl
@[simp] theorem State.modXu_odt (s : State) (f : Xu → Xu) : (s.modXu f).odt = s.odt := rfl
@[simp] theorem State.modXu_rse (s : State) (f : Xu → Xu) : (s.modXu f).rse = s.rse := rfl
@[simp] theorem State.modXu_blc (s : State) (f : Xu → Xu) : (s.modXu f).blc = s.blc := rfl
@[simp] theorem State.modXu_aud (s : State) (f : Xu → Xu) : (s.modXu f).aud = s.aud := rfl
@[simp] theorem State.modXu_lines (s : State) (f : Xu → Xu) : (s.modXu f).lines = s.lines := rfl
@[simp] theorem State.modXu_levels (s : State) (f : Xu → Xu) : (s.modXu f).levels = s.levels := rfl
@[simp] theorem State.modXu_outs (s : State) (f : Xu → Xu) : (s.modXu f).outs = s.outs := rfl
@[simp] theorem State.modXu_agenda (s : State) (f : Xu → Xu) : (s.modXu f).agenda = s.agenda := rfl
@[simp] theorem State.modXu_skip (s : State) (f : Xu → Xu) : (s.modXu f).skip = s.skip := rfl
@[simp] theorem State.modXu_serial (s : State) (f : Xu → Xu) : (s.modXu f).serial = s.serial := rfl
@[simp] theorem State.modXu_free (s : State) (f : Xu → Xu) : (s.modXu f).free = s.free := rfl
@[simp] theorem State.modXu_pending (s : State) (f : Xu → Xu) : (s.modXu f).pending = s.pending := rfl

/-! ### `modStb` -/

@[simp] theorem State.modStb_xu (s : State) (f : Stb → Stb) : (s.modStb f).xu = s.xu := rfl
@[simp] theorem State.modStb_cfg (s : State) (f : Stb → Stb) : (s.modStb f).cfg = s.cfg := rfl
@[simp] theorem State.modStb_stb (s : State) (f : Stb → Stb) : (s.modStb f).stb = f s.stb := rfl
@[simp] theorem State.modStb_cars (s : State) (f : Stb → Stb) : (s.modStb f).cars = s.cars := rfl
@[simp] theorem State.modStb_pau (s : State) (f : Stb → Stb) : (s.modStb f).pau = s.pau := rfl
@[simp] theorem State.modStb_odt (s : State) (f : Stb → Stb) : (s.modStb f).odt = s.odt := rfl
@[simp] theorem State.modStb_rse (s : State) (f : Stb → Stb) : (s.modStb f).rse = s.rse := rfl
@[simp] theorem State.modStb_blc (s : State) (f : Stb → Stb) : (s.modStb f).blc = s.blc := rfl
@[simp] theorem State.modStb_aud (s : State) (f : Stb → Stb) : (s.modStb f).aud = s.aud := rfl
@[simp] theorem State.modStb_lines (s : State) (f : Stb → Stb) : (s.modStb f).lines = s.lines := rfl
@[simp] theorem State.modStb_levels (s : State) (f : Stb → Stb) : (s.modStb f).levels = s.levels := rfl
@[simp] theorem State.modStb_outs (s : State) (f : Stb → Stb) : (s.modStb f).outs = s.outs := rfl
@[simp] theorem State.modStb_agenda (s : State) (f : Stb → Stb) : (s.modStb f).agenda = s.agenda := rfl
@[simp] theorem State.modStb_skip (s : State) (f : Stb → Stb) : (s.modStb f).skip = s.skip := rfl
@[simp] theorem State.modStb_serial (s : State) (f : Stb → Stb) : (s.modStb f).serial = s.serial := rfl
@[simp] theorem State.modStb_free (s : State) (f : Stb → Stb) : (s.modStb f).free = s.free := rfl
@[simp] theorem State.modStb_pending (s : State) (f : Stb → Stb) : (s.modStb f).pending = s.pending := rfl

/-! ### `modBlc` -/

@[simp] theorem State.modBlc_xu (s : State) (f : Blc → Blc) : (s.modBlc f).xu = s.xu := rfl
@[simp] theorem State.modBlc_cfg (s : State) (f : Blc → Blc) : (s.modBlc f).cfg = s.cfg := rfl
@[simp] theorem State.modBlc_stb (s : State) (f : Blc → Blc) : (s.modBlc f).stb = s.stb := rfl
@[simp] theorem State.modBlc_cars (s : State) (f : Blc → Blc) : (s.modBlc f).cars = s.cars := rfl
@[simp] theorem State.modBlc_pau (s : State) (f : Blc → Blc) : (s.modBlc f).pau = s.pau := rfl
@[simp] theorem State.modBlc_odt (s : State) (f : Blc → Blc) : (s.modBlc f).odt = s.odt := rfl
@[simp] theorem State.modBlc_rse (s : State) (f : Blc → Blc) : (s.modBlc f).rse = s.rse := rfl
@[simp] theorem State.modBlc_blc (s : State) (f : Blc → Blc) : (s.modBlc f).blc = f s.blc := rfl
@[simp] theorem State.modBlc_aud (s : State) (f : Blc → Blc) : (s.modBlc f).aud = s.aud := rfl
@[simp] theorem State.modBlc_lines (s : State) (f : Blc → Blc) : (s.modBlc f).lines = s.lines := rfl
@[simp] theorem State.modBlc_levels (s : State) (f : Blc → Blc) : (s.modBlc f).levels = s.levels := rfl
@[simp] theorem State.modBlc_outs (s : State) (f : Blc → Blc) : (s.modBlc f).outs = s.outs := rfl
@[simp] theorem State.modBlc_agenda (s : State) (f : Blc → Blc) : (s.modBlc f).agenda = s.agenda := rfl
@[simp] theorem State.modBlc_skip (s : State) (f : Blc → Blc) : (s.modBlc f).skip = s.skip := rfl
@[simp] theorem State.modBlc_serial (s : State) (f : Blc → Blc) : (s.modBlc f).serial = s.serial := rfl
@[simp] theorem State.modBlc_free (s : State) (f : Blc → Blc) : (s.modBlc f).free = s.free := rfl
@[simp] theorem State.modBlc_pending (s : State) (f : Blc → Blc) : (s.modBlc f).pending = s.pending := rfl

/-! ### `emit` -/

@[simp] theorem State.emit_xu (s : State) (o : Out) : (s.emit o).xu = s.xu := rfl
@[simp] theorem State.emit_cfg (s : State) (o : Out) : (s.emit o).cfg = s.cfg := rfl
@[simp] theorem State.emit_stb (s : State) (o : Out) : (s.emit o).stb = s.stb := rfl
@[simp] theorem State.emit_cars (s : State) (o : Out) : (s.emit o).cars = s.cars := rfl
@[simp] theorem State.emit_pau (s : State) (o : Out) : (s.emit o).pau = s.pau := rfl
@[simp] theorem State.emit_odt (s : State) (o : Out) : (s.emit o).odt = s.odt := rfl
@[simp] theorem State.emit_rse (s : State) (o : Out) : (s.emit o).rse = s.rse := rfl
@[simp] theorem State.emit_blc (s : State) (o : Out) : (s.emit o).blc = s.blc := rfl
@[simp] theorem State.emit_aud (s : State) (o : Out) : (s.emit o).aud = s.aud := rfl
@[simp] theorem State.emit_lines (s : State) (o : Out) : (s.emit o).lines = s.lines := rfl
@[simp] theorem State.emit_levels (s : State) (o : Out) : (s.emit o).levels = s.levels := rfl
@[simp] theorem State.emit_outs (s : State) (o : Out) : (s.emit o).outs = s.outs ++ [o] := rfl
@[simp] theorem State.emit_agenda (s : State) (o : Out) : (s.emit o).agenda = s.agenda := rfl
@[simp] theorem State.emit_skip (s : State) (o : Out) : (s.emit o).skip = s.skip := rfl
@[simp] theorem State.emit_serial (s : State) (o : Out) : (s.emit o).serial = s.serial := rfl
@[simp] theorem State.emit_free (s : State) (o : Out) : (s.emit o).free = s.free := rfl
@[simp] theorem State.emit_pending (s : State) (o : Out) : (s.emit o).pending = s.pending := rfl

/-! ### `capture` -/

@[simp] theorem State.capture_xu (s : State) (r k : Nat) (d : List Byte) :
    (s.capture r k d).xu = s.xu.capture r k d := rfl
@[simp] theorem State.capture_cfg (s : State) (r k : Nat) (d : List Byte) : (s.capture r k d).cfg = s.cfg := rfl
@[simp] theorem State.capture_stb (s : State) (r k : Nat) (d : List Byte) : (s.capture r k d).stb = s.stb := rfl
@[simp] theorem State.capture_cars (s : State) (r k : Nat) (d : List Byte) : (s.capture r k d).cars = s.cars := rfl
@[simp] theorem State.capture_pau (s : State) (r k : Nat) (d : List Byte) : (s.capture r k d).pau = s.pau := rfl
@[simp] theorem State.capture_odt (s : State) (r k : Nat) (d : List Byte) : (s.capture r k d).odt = s.odt := rfl
@[simp] theorem State.capture_rse (s : State) (r k : Nat) (d : List Byte) : (s.capture r k d).rse = s.rse := rfl
@[simp] theorem State.capture_blc (s : State) (r k : Nat) (d : List Byte) : (s.capture r k d).blc = s.blc := rfl
@[simp] theorem State.capture_aud (s : State) (r k : Nat) (d : List Byte) : (s.capture r k d).aud = s.aud := rfl
@[simp] theorem State.capture_lines (s : State) (r k : Nat) (d : List Byte) : (s.capture r k d).lines = s.lines := rfl
@[simp] theorem State.capture_levels (s : State) (r k : Nat) (d : List Byte) :
    (s.capture r k d).levels = s.levels := rfl
@[simp] theorem State.capture_outs (s : State) (r k : Nat) (d : List Byte) : (s.capture r k d).outs = s.outs := rfl
@[simp] theorem State.capture_agenda (s : State) (r k : Nat) (d : List Byte) :
    (s.capture r k d).agenda = s.agenda := rfl
@[simp] theorem State.capture_skip (s : State) (r k : Nat) (d : List Byte) : (s.capture r k d).skip = s.skip := rfl
@[simp] theorem State.capture_serial (s : State) (r k : Nat) (d : List Byte) :
    (s.capture r k d).serial = s.serial := rfl
@[simp] theorem State.capture_free (s : State) (r k : Nat) (d : List Byte) :
    (s.capture r k d).free = s.free := rfl
@[simp] theorem State.capture_pending (s : State) (r k : Nat) (d : List Byte) :
    (s.capture r k d).pending = s.pending := rfl

/-! ### `answer` -/

@[simp] theorem State.answer_xu (s : State) (f code flags : Nat) (contents : List Byte) :
    (s.answer f code flags contents).xu = s.xu.frameReturn f [] code flags contents := rfl
@[simp] theorem State.answer_cfg (s : State) (f code flags : Nat) (contents : List Byte) :
    (s.answer f code flags contents).cfg = s.cfg := rfl
@[simp] theorem State.answer_stb (s : State) (f code flags : Nat) (contents : List Byte) :
    (s.answer f code flags contents).stb = s.stb := rfl
@[simp] theorem State.answer_cars (s : State) (f code flags : Nat) (contents : List Byte) :
    (s.answer f code flags contents).cars = s.cars := rfl
@[simp] theorem State.answer_pau (s : State) (f code flags : Nat) (contents : List Byte) :
    (s.answer f code flags contents).pau = s.pau := rfl
@[simp] theorem State.answer_odt (s : State) (f code flags : Nat) (contents : List Byte) :
    (s.answer f code flags contents).odt = s.odt := rfl
@[simp] theorem State.answer_rse (s : State) (f code flags : Nat) (contents : List Byte) :
    (s.answer f code flags contents).rse = s.rse := rfl
@[simp] theorem State.answer_blc (s : State) (f code flags : Nat) (contents : List Byte) :
    (s.answer f code flags contents).blc = s.blc := rfl
@[simp] theorem State.answer_aud (s : State) (f code flags : Nat) (contents : List Byte) :
    (s.answer f code flags contents).aud = s.aud := rfl
@[simp] theorem State.answer_lines (s : State) (f code flags : Nat) (contents : List Byte) :
    (s.answer f code flags contents).lines = s.lines := rfl
@[simp] theorem State.answer_levels (s : State) (f code flags : Nat) (contents : List Byte) :
    (s.answer f code flags contents).levels = s.levels := rfl
@[simp] theorem State.answer_outs (s : State) (f code flags : Nat) (contents : List Byte) :
    (s.answer f code flags contents).outs = s.outs := rfl
@[simp] theorem State.answer_agenda (s : State) (f code flags : Nat) (contents : List Byte) :
    (s.answer f code flags contents).agenda = s.agenda := rfl
@[simp] theorem State.answer_skip (s : State) (f code flags : Nat) (contents : List Byte) :
    (s.answer f code flags contents).skip = s.skip := rfl
@[simp] theorem State.answer_serial (s : State) (f code flags : Nat) (contents : List Byte) :
    (s.answer f code flags contents).serial = s.serial := rfl
@[simp] theorem State.answer_free (s : State) (f code flags : Nat) (contents : List Byte) :
    (s.answer f code flags contents).free = s.free := rfl
@[simp] theorem State.answer_pending (s : State) (f code flags : Nat) (contents : List Byte) :
    (s.answer f code flags contents).pending = s.pending := rfl

/-! ### `setOrder` -/

@[simp] theorem State.setOrder_xu (s : State) (i : Nat) (o : Option Order) : (s.setOrder i o).xu = s.xu := rfl
@[simp] theorem State.setOrder_cfg (s : State) (i : Nat) (o : Option Order) : (s.setOrder i o).cfg = s.cfg := rfl
@[simp] theorem State.setOrder_stb (s : State) (i : Nat) (o : Option Order) : (s.setOrder i o).stb = s.stb := rfl
@[simp] theorem State.setOrder_cars (s : State) (i : Nat) (o : Option Order) : (s.setOrder i o).cars = s.cars := rfl
@[simp] theorem State.setOrder_pau (s : State) (i : Nat) (o : Option Order) : (s.setOrder i o).pau = s.pau := rfl
@[simp] theorem State.setOrder_odt (s : State) (i : Nat) (o : Option Order) :
    (s.setOrder i o).odt = { s.odt with orders := s.odt.orders.set i o } := rfl
@[simp] theorem State.setOrder_rse (s : State) (i : Nat) (o : Option Order) : (s.setOrder i o).rse = s.rse := rfl
@[simp] theorem State.setOrder_blc (s : State) (i : Nat) (o : Option Order) : (s.setOrder i o).blc = s.blc := rfl
@[simp] theorem State.setOrder_aud (s : State) (i : Nat) (o : Option Order) : (s.setOrder i o).aud = s.aud := rfl
@[simp] theorem State.setOrder_lines (s : State) (i : Nat) (o : Option Order) :
    (s.setOrder i o).lines = s.lines := rfl
@[simp] theorem State.setOrder_levels (s : State) (i : Nat) (o : Option Order) :
    (s.setOrder i o).levels = s.levels := rfl
@[simp] theorem State.setOrder_outs (s : State) (i : Nat) (o : Option Order) : (s.setOrder i o).outs = s.outs := rfl
@[simp] theorem State.setOrder_agenda (s : State) (i : Nat) (o : Option Order) :
    (s.setOrder i o).agenda = s.agenda := rfl
@[simp] theorem State.setOrder_skip (s : State) (i : Nat) (o : Option Order) : (s.setOrder i o).skip = s.skip := rfl
@[simp] theorem State.setOrder_serial (s : State) (i : Nat) (o : Option Order) :
    (s.setOrder i o).serial = s.serial := rfl
@[simp] theorem State.setOrder_free (s : State) (i : Nat) (o : Option Order) :
    (s.setOrder i o).free = s.free := rfl
@[simp] theorem State.setOrder_pending (s : State) (i : Nat) (o : Option Order) :
    (s.setOrder i o).pending = s.pending := rfl

/-! ### `modOrder` -/

@[simp] theorem State.modOrder_xu (s : State) (i : Nat) (f : Order → Order) : (s.modOrder i f).xu = s.xu := rfl
@[simp] theorem State.modOrder_cfg (s : State) (i : Nat) (f : Order → Order) : (s.modOrder i f).cfg = s.cfg := rfl
@[simp] theorem State.modOrder_stb (s : State) (i : Nat) (f : Order → Order) : (s.modOrder i f).stb = s.stb := rfl
@[simp] theorem State.modOrder_cars (s : State) (i : Nat) (f : Order → Order) : (s.modOrder i f).cars = s.cars := rfl
@[simp] theorem State.modOrder_pau (s : State) (i : Nat) (f : Order → Order) : (s.modOrder i f).pau = s.pau := rfl
@[simp] theorem State.modOrder_odt (s : State) (i : Nat) (f : Order → Order) :
    (s.modOrder i f).odt = { s.odt with orders := s.odt.orders.set i ((s.order i).map f) } := rfl
@[simp] theorem State.modOrder_rse (s : State) (i : Nat) (f : Order → Order) : (s.modOrder i f).rse = s.rse := rfl
@[simp] theorem State.modOrder_blc (s : State) (i : Nat) (f : Order → Order) : (s.modOrder i f).blc = s.blc := rfl
@[simp] theorem State.modOrder_aud (s : State) (i : Nat) (f : Order → Order) : (s.modOrder i f).aud = s.aud := rfl
@[simp] theorem State.modOrder_lines (s : State) (i : Nat) (f : Order → Order) :
    (s.modOrder i f).lines = s.lines := rfl
@[simp] theorem State.modOrder_levels (s : State) (i : Nat) (f : Order → Order) :
    (s.modOrder i f).levels = s.levels := rfl
@[simp] theorem State.modOrder_outs (s : State) (i : Nat) (f : Order → Order) : (s.modOrder i f).outs = s.outs := rfl
@[simp] theorem State.modOrder_agenda (s : State) (i : Nat) (f : Order → Order) :
    (s.modOrder i f).agenda = s.agenda := rfl
@[simp] theorem State.modOrder_skip (s : State) (i : Nat) (f : Order → Order) : (s.modOrder i f).skip = s.skip := rfl
@[simp] theorem State.modOrder_serial (s : State) (i : Nat) (f : Order → Order) :
    (s.modOrder i f).serial = s.serial := rfl
@[simp] theorem State.modOrder_free (s : State) (i : Nat) (f : Order → Order) :
    (s.modOrder i f).free = s.free := rfl
@[simp] theorem State.modOrder_pending (s : State) (i : Nat) (f : Order → Order) :
    (s.modOrder i f).pending = s.pending := rfl

/-! ### `setLane` -/

@[simp] theorem State.setLane_xu (s : State) (l : Nat) (x : Lane) : (s.setLane l x).xu = s.xu := rfl
@[simp] theorem State.setLane_cfg (s : State) (l : Nat) (x : Lane) : (s.setLane l x).cfg = s.cfg := rfl
@[simp] theorem State.setLane_stb (s : State) (l : Nat) (x : Lane) : (s.setLane l x).stb = s.stb := rfl
@[simp] theorem State.setLane_cars (s : State) (l : Nat) (x : Lane) : (s.setLane l x).cars = s.cars := rfl
@[simp] theorem State.setLane_pau (s : State) (l : Nat) (x : Lane) : (s.setLane l x).pau = s.pau := rfl
@[simp] theorem State.setLane_odt (s : State) (l : Nat) (x : Lane) :
    (s.setLane l x).odt = { s.odt with lanes := s.odt.lanes.set (l - 1) x } := rfl
@[simp] theorem State.setLane_rse (s : State) (l : Nat) (x : Lane) : (s.setLane l x).rse = s.rse := rfl
@[simp] theorem State.setLane_blc (s : State) (l : Nat) (x : Lane) : (s.setLane l x).blc = s.blc := rfl
@[simp] theorem State.setLane_aud (s : State) (l : Nat) (x : Lane) : (s.setLane l x).aud = s.aud := rfl
@[simp] theorem State.setLane_lines (s : State) (l : Nat) (x : Lane) : (s.setLane l x).lines = s.lines := rfl
@[simp] theorem State.setLane_levels (s : State) (l : Nat) (x : Lane) : (s.setLane l x).levels = s.levels := rfl
@[simp] theorem State.setLane_outs (s : State) (l : Nat) (x : Lane) : (s.setLane l x).outs = s.outs := rfl
@[simp] theorem State.setLane_agenda (s : State) (l : Nat) (x : Lane) : (s.setLane l x).agenda = s.agenda := rfl
@[simp] theorem State.setLane_skip (s : State) (l : Nat) (x : Lane) : (s.setLane l x).skip = s.skip := rfl
@[simp] theorem State.setLane_serial (s : State) (l : Nat) (x : Lane) : (s.setLane l x).serial = s.serial := rfl
@[simp] theorem State.setLane_free (s : State) (l : Nat) (x : Lane) : (s.setLane l x).free = s.free := rfl
@[simp] theorem State.setLane_pending (s : State) (l : Nat) (x : Lane) : (s.setLane l x).pending = s.pending := rfl

/-! ### `setAudit` -/

@[simp] theorem State.setAudit_xu (s : State) (r : Nat) (a : Option AuditRec) : (s.setAudit r a).xu = s.xu := rfl
@[simp] theorem State.setAudit_cfg (s : State) (r : Nat) (a : Option AuditRec) : (s.setAudit r a).cfg = s.cfg := rfl
@[simp] theorem State.setAudit_stb (s : State) (r : Nat) (a : Option AuditRec) : (s.setAudit r a).stb = s.stb := rfl
@[simp] theorem State.setAudit_cars (s : State) (r : Nat) (a : Option AuditRec) :
    (s.setAudit r a).cars = s.cars := rfl
@[simp] theorem State.setAudit_pau (s : State) (r : Nat) (a : Option AuditRec) : (s.setAudit r a).pau = s.pau := rfl
@[simp] theorem State.setAudit_odt (s : State) (r : Nat) (a : Option AuditRec) : (s.setAudit r a).odt = s.odt := rfl
@[simp] theorem State.setAudit_rse (s : State) (r : Nat) (a : Option AuditRec) : (s.setAudit r a).rse = s.rse := rfl
@[simp] theorem State.setAudit_blc (s : State) (r : Nat) (a : Option AuditRec) : (s.setAudit r a).blc = s.blc := rfl
@[simp] theorem State.setAudit_aud (s : State) (r : Nat) (a : Option AuditRec) :
    (s.setAudit r a).aud = { s.aud with records := s.aud.records.set r a } := rfl
@[simp] theorem State.setAudit_lines (s : State) (r : Nat) (a : Option AuditRec) :
    (s.setAudit r a).lines = s.lines := rfl
@[simp] theorem State.setAudit_levels (s : State) (r : Nat) (a : Option AuditRec) :
    (s.setAudit r a).levels = s.levels := rfl
@[simp] theorem State.setAudit_outs (s : State) (r : Nat) (a : Option AuditRec) :
    (s.setAudit r a).outs = s.outs := rfl
@[simp] theorem State.setAudit_agenda (s : State) (r : Nat) (a : Option AuditRec) :
    (s.setAudit r a).agenda = s.agenda := rfl
@[simp] theorem State.setAudit_skip (s : State) (r : Nat) (a : Option AuditRec) :
    (s.setAudit r a).skip = s.skip := rfl
@[simp] theorem State.setAudit_serial (s : State) (r : Nat) (a : Option AuditRec) :
    (s.setAudit r a).serial = s.serial := rfl
@[simp] theorem State.setAudit_free (s : State) (r : Nat) (a : Option AuditRec) :
    (s.setAudit r a).free = s.free := rfl
@[simp] theorem State.setAudit_pending (s : State) (r : Nat) (a : Option AuditRec) :
    (s.setAudit r a).pending = s.pending := rfl

/-! ### `modAudit` -/

@[simp] theorem State.modAudit_xu (s : State) (r : Nat) (f : AuditRec → AuditRec) : (s.modAudit r f).xu = s.xu := rfl
@[simp] theorem State.modAudit_cfg (s : State) (r : Nat) (f : AuditRec → AuditRec) :
    (s.modAudit r f).cfg = s.cfg := rfl
@[simp] theorem State.modAudit_stb (s : State) (r : Nat) (f : AuditRec → AuditRec) :
    (s.modAudit r f).stb = s.stb := rfl
@[simp] theorem State.modAudit_cars (s : State) (r : Nat) (f : AuditRec → AuditRec) :
    (s.modAudit r f).cars = s.cars := rfl
@[simp] theorem State.modAudit_pau (s : State) (r : Nat) (f : AuditRec → AuditRec) :
    (s.modAudit r f).pau = s.pau := rfl
@[simp] theorem State.modAudit_odt (s : State) (r : Nat) (f : AuditRec → AuditRec) :
    (s.modAudit r f).odt = s.odt := rfl
@[simp] theorem State.modAudit_rse (s : State) (r : Nat) (f : AuditRec → AuditRec) :
    (s.modAudit r f).rse = s.rse := rfl
@[simp] theorem State.modAudit_blc (s : State) (r : Nat) (f : AuditRec → AuditRec) :
    (s.modAudit r f).blc = s.blc := rfl
@[simp] theorem State.modAudit_aud (s : State) (r : Nat) (f : AuditRec → AuditRec) :
    (s.modAudit r f).aud = { s.aud with records := s.aud.records.set r ((s.audit r).map f) } := rfl
@[simp] theorem State.modAudit_lines (s : State) (r : Nat) (f : AuditRec → AuditRec) :
    (s.modAudit r f).lines = s.lines := rfl
@[simp] theorem State.modAudit_levels (s : State) (r : Nat) (f : AuditRec → AuditRec) :
    (s.modAudit r f).levels = s.levels := rfl
@[simp] theorem State.modAudit_outs (s : State) (r : Nat) (f : AuditRec → AuditRec) :
    (s.modAudit r f).outs = s.outs := rfl
@[simp] theorem State.modAudit_agenda (s : State) (r : Nat) (f : AuditRec → AuditRec) :
    (s.modAudit r f).agenda = s.agenda := rfl
@[simp] theorem State.modAudit_skip (s : State) (r : Nat) (f : AuditRec → AuditRec) :
    (s.modAudit r f).skip = s.skip := rfl
@[simp] theorem State.modAudit_serial (s : State) (r : Nat) (f : AuditRec → AuditRec) :
    (s.modAudit r f).serial = s.serial := rfl
@[simp] theorem State.modAudit_free (s : State) (r : Nat) (f : AuditRec → AuditRec) :
    (s.modAudit r f).free = s.free := rfl
@[simp] theorem State.modAudit_pending (s : State) (r : Nat) (f : AuditRec → AuditRec) :
    (s.modAudit r f).pending = s.pending := rfl

/-! ### `modCadence` -/

@[simp] theorem State.modCadence_xu (s : State) (c : Nat) (f : Cadence → Cadence) :
    (s.modCadence c f).xu = s.xu := rfl
@[simp] theorem State.modCadence_cfg (s : State) (c : Nat) (f : Cadence → Cadence) :
    (s.modCadence c f).cfg = s.cfg := rfl
@[simp] theorem State.modCadence_stb (s : State) (c : Nat) (f : Cadence → Cadence) :
    (s.modCadence c f).stb = s.stb := rfl
@[simp] theorem State.modCadence_cars (s : State) (c : Nat) (f : Cadence → Cadence) :
    (s.modCadence c f).cars = s.cars := rfl
@[simp] theorem State.modCadence_pau (s : State) (c : Nat) (f : Cadence → Cadence) :
    (s.modCadence c f).pau = s.pau := rfl
@[simp] theorem State.modCadence_odt (s : State) (c : Nat) (f : Cadence → Cadence) :
    (s.modCadence c f).odt = s.odt := rfl
@[simp] theorem State.modCadence_rse (s : State) (c : Nat) (f : Cadence → Cadence) :
    (s.modCadence c f).rse = s.rse := rfl
@[simp] theorem State.modCadence_blc (s : State) (c : Nat) (f : Cadence → Cadence) :
    (s.modCadence c f).blc = s.blc := rfl
@[simp] theorem State.modCadence_aud (s : State) (c : Nat) (f : Cadence → Cadence) :
    (s.modCadence c f).aud = { s.aud with cadence := s.aud.cadence.set (c - 1) (f (s.cadenceOf c)) } := rfl
@[simp] theorem State.modCadence_lines (s : State) (c : Nat) (f : Cadence → Cadence) :
    (s.modCadence c f).lines = s.lines := rfl
@[simp] theorem State.modCadence_levels (s : State) (c : Nat) (f : Cadence → Cadence) :
    (s.modCadence c f).levels = s.levels := rfl
@[simp] theorem State.modCadence_outs (s : State) (c : Nat) (f : Cadence → Cadence) :
    (s.modCadence c f).outs = s.outs := rfl
@[simp] theorem State.modCadence_agenda (s : State) (c : Nat) (f : Cadence → Cadence) :
    (s.modCadence c f).agenda = s.agenda := rfl
@[simp] theorem State.modCadence_skip (s : State) (c : Nat) (f : Cadence → Cadence) :
    (s.modCadence c f).skip = s.skip := rfl
@[simp] theorem State.modCadence_serial (s : State) (c : Nat) (f : Cadence → Cadence) :
    (s.modCadence c f).serial = s.serial := rfl
@[simp] theorem State.modCadence_free (s : State) (c : Nat) (f : Cadence → Cadence) :
    (s.modCadence c f).free = s.free := rfl
@[simp] theorem State.modCadence_pending (s : State) (c : Nat) (f : Cadence → Cadence) :
    (s.modCadence c f).pending = s.pending := rfl

/-! ### `fresh` -/

@[simp] theorem State.fresh_xu (s : State) : (s.fresh).xu = s.xu := rfl
@[simp] theorem State.fresh_cfg (s : State) : (s.fresh).cfg = s.cfg := rfl
@[simp] theorem State.fresh_stb (s : State) : (s.fresh).stb = s.stb := rfl
@[simp] theorem State.fresh_cars (s : State) : (s.fresh).cars = s.cars := rfl
@[simp] theorem State.fresh_pau (s : State) : (s.fresh).pau = s.pau := rfl
@[simp] theorem State.fresh_odt (s : State) : (s.fresh).odt = s.odt := rfl
@[simp] theorem State.fresh_rse (s : State) : (s.fresh).rse = s.rse := rfl
@[simp] theorem State.fresh_blc (s : State) : (s.fresh).blc = s.blc := rfl
@[simp] theorem State.fresh_aud (s : State) : (s.fresh).aud = s.aud := rfl
@[simp] theorem State.fresh_lines (s : State) : (s.fresh).lines = s.linesNow := rfl
@[simp] theorem State.fresh_levels (s : State) : (s.fresh).levels = s.levels.tail := rfl
@[simp] theorem State.fresh_outs (s : State) : (s.fresh).outs = [] := rfl
@[simp] theorem State.fresh_agenda (s : State) : (s.fresh).agenda = [] := rfl
@[simp] theorem State.fresh_skip (s : State) : (s.fresh).skip = [] := rfl
@[simp] theorem State.fresh_serial (s : State) : (s.fresh).serial = s.serial := rfl
@[simp] theorem State.fresh_free (s : State) : (s.fresh).free = s.free := rfl
@[simp] theorem State.fresh_pending (s : State) : (s.fresh).pending = s.pending := rfl

/-! ### The lines a command finds, and the admission sequence -/

@[simp] theorem setLevels_length (l : List CarLines) (a b : List Bool) : (setLevels l a b).length = l.length := by
  induction l generalizing a b with
  | nil => rfl
  | cons x xs ih => simp [setLevels, ih]

/-- With no level given every line stands. -/
@[simp] theorem setLevels_nil (l : List CarLines) : setLevels l [] [] = l := by
  induction l with
  | nil => rfl
  | cons x xs ih => simp [setLevels, ih]

/-- A command finds at each carousel the gate and infeed levels that stand, and of load present and spur head the level
given, else the one that stands. -/
theorem setLevels_get (l : List CarLines) (a b : List Bool) (i : Nat) :
    (setLevels l a b)[i]? =
      l[i]?.map fun x => { x with load := a.getD i x.load, spurHead := b.getD i x.spurHead } := by
  induction l generalizing a b i with
  | nil => rfl
  | cons x xs ih =>
    cases i with
    | zero => cases a <;> cases b <;> rfl
    | succ i =>
      have e := ih a.tail b.tail i
      cases a <;> cases b <;> exact e

/-- With no entry left the lines stand as they are. -/
theorem State.linesNow_of_nil {s : State} (h : s.levels = []) : s.linesNow = s.lines := by
  unfold State.linesNow; rw [h]

@[simp] theorem State.linesNow_estop (s : State) : s.linesNow.estop = s.lines.estop := by
  unfold State.linesNow; split <;> rfl
@[simp] theorem State.linesNow_mergeClear (s : State) : s.linesNow.mergeClear = s.lines.mergeClear := by
  unfold State.linesNow; split <;> rfl
@[simp] theorem State.linesNow_cars_length (s : State) : s.linesNow.cars.length = s.lines.cars.length := by
  unfold State.linesNow; split <;> simp

/-- Below the top of the range the next admission sequence is one more (R100). -/
theorem State.takeSeq_lt {s : State} (h : s.odt.nextSeq < Config.seqTop) :
    s.takeSeq = { s with odt := { s.odt with nextSeq := s.odt.nextSeq + 1 } } := by
  unfold State.takeSeq; rw [if_pos h]

/-- The next admission sequence lies in the range of R100. -/
theorem State.takeSeq_range (s : State) :
    1 ≤ s.takeSeq.odt.nextSeq ∧ s.takeSeq.odt.nextSeq ≤ Config.seqTop := by
  unfold State.takeSeq
  dsimp only
  split
  · rename_i h; exact ⟨Nat.succ_pos _, h⟩
  · have h := Nat.mod_lt (Config.seqPastTop s.free).toNat (show 0 < Config.seqTop by decide)
    dsimp only
    omega

/-! ### Reading what was written -/

theorem State.car_eq (s : State) (c : Nat) : s.car c = s.cars.getD (c - 1) (Car.reset false false) := rfl
theorem State.car_congr {s t : State} (h : t.cars = s.cars) (c : Nat) : t.car c = s.car c := by
  unfold State.car; rw [h]
theorem State.pauOf_congr {s t : State} (h : t.pau = s.pau) (c : Nat) : t.pauOf c = s.pauOf c := by
  unfold State.pauOf; rw [h]
theorem State.order_congr {s t : State} (h : t.odt = s.odt) (i : Nat) : t.order i = s.order i := by
  unfold State.order; rw [h]
theorem State.audit_congr {s t : State} (h : t.aud = s.aud) (r : Nat) : t.audit r = s.audit r := by
  unfold State.audit; rw [h]

/-- The record just written is read back, where the table has the carousel. -/
theorem State.car_setCar_self (s : State) (c : Nat) (x : Car) (h : c - 1 < s.cars.length) : (s.setCar c x).car c = x := by
  simp [State.car, h]
/-- Another carousel's record stands. -/
theorem State.car_setCar_ne (s : State) (c d : Nat) (x : Car) (h : c - 1 ≠ d - 1) : (s.setCar c x).car d = s.car d := by
  simp [State.car, h]
theorem State.car_modCar_self (s : State) (c : Nat) (f : Car → Car) (h : c - 1 < s.cars.length) :
    (s.modCar c f).car c = f (s.car c) := State.car_setCar_self s c _ h
theorem State.car_modCar_ne (s : State) (c d : Nat) (f : Car → Car) (h : c - 1 ≠ d - 1) :
    (s.modCar c f).car d = s.car d := State.car_setCar_ne s c d _ h
theorem State.pauOf_modPau_self (s : State) (c : Nat) (f : Pau → Pau) (h : c - 1 < s.pau.length) :
    (s.modPau c f).pauOf c = f (s.pauOf c) := by simp [State.pauOf, h]
theorem State.order_setOrder_self (s : State) (i : Nat) (o : Option Order) (h : i < s.odt.orders.length) :
    (s.setOrder i o).order i = o := by simp [State.order, h]
theorem State.order_setOrder_ne (s : State) (i j : Nat) (o : Option Order) (h : i ≠ j) :
    (s.setOrder i o).order j = s.order j := by simp [State.order, h]
theorem State.audit_setAudit_self (s : State) (r : Nat) (a : Option AuditRec) (h : r < s.aud.records.length) :
    (s.setAudit r a).audit r = a := by simp [State.audit, h]

/-- Two writes of one carousel's record are the second. -/
theorem State.setCar_setCar (s : State) (c : Nat) (x y : Car) : (s.setCar c x).setCar c y = s.setCar c y := by
  simp [State.setCar]

/-- Two changes of one carousel's record are one change. -/
theorem State.modCar_modCar (s : State) (c : Nat) (f g : Car → Car) (h : c - 1 < s.cars.length) :
    (s.modCar c f).modCar c g = s.modCar c fun x => g (f x) := by
  unfold State.modCar
  rw [State.setCar_setCar, State.car_setCar_self s c _ h]

/-! ### Marks of an entry -/

@[simp] theorem Entry.reserve_label (e : Entry) (m : Mark) (d : Nat) : (e.reserve m d).label = e.label := rfl
@[simp] theorem Entry.reserve_mark (e : Entry) (m : Mark) (d : Nat) : (e.reserve m d).mark = some m := rfl
@[simp] theorem Entry.reserve_reservedAt (e : Entry) (m : Mark) (d : Nat) : (e.reserve m d).reservedAt = d := rfl
@[simp] theorem Entry.free_label (e : Entry) : e.free.label = e.label := rfl
@[simp] theorem Entry.free_mark (e : Entry) : e.free.mark = none := rfl
@[simp] theorem Entry.free_reservedAt (e : Entry) : e.free.reservedAt = 0 := rfl
@[simp] theorem Spot.depth_bay (c b d : Nat) : (Spot.bay c b d).depth = d := rfl
@[simp] theorem Spot.depth_rack (c i : Nat) : (Spot.rack c i).depth = 0 := rfl
@[simp] theorem Spot.depth_gripper (c : Nat) : (Spot.gripper c).depth = 0 := rfl

end Sys2Proof.Machine
end

