-- ==== Sys2Proof/Laws/Command.lean ====
section
/-! SUPPORT. How a command is wound up: with nothing on the agenda and HALTING not complete, the end of a command changes
nothing; after any command no pass is owed and HALTING is not complete. -/

namespace Sys2Proof.Machine

/-- With an empty agenda no pass runs. -/
theorem settle_nil (n : Nat) (s : State) (h : s.agenda = []) : settle n s = s := by
  cases n with
  | zero => unfold settle; rw [h]; rfl
  | succ n => unfold settle; rw [h]

/-- The halting test changes nothing while HALTING is not complete. -/
theorem State.haltCheck_eq (s : State) (h : s.HaltPending) : s.haltCheck = s := by
  unfold State.haltCheck
  by_cases hm : s.xu.mode = .halting
  · simp [hm, h hm]
  · simp [hm]

/-- The end of a command that owes no pass changes nothing while HALTING is not complete. -/
theorem State.finish_eq (s : State) (ha : s.agenda = []) (hs : s.skip = []) (h : s.HaltPending) : s.finish = s := by
  unfold State.finish
  rw [settle_nil _ _ ha]
  have e : ({ s with agenda := [], skip := [] } : State) = s := by cases s; simp_all
  simp only [e]
  exact s.haltCheck_eq h

/-- A command whose effect owes no pass is its effect. -/
theorem State.run_eq (f : State → State) (s : State) (ha : (f s.fresh).agenda = []) (hs : (f s.fresh).skip = [])
    (h : (f s.fresh).HaltPending) : s.run f = f s.fresh := State.finish_eq _ ha hs h

/-- Clearing the pulses keeps HALTING as it is. -/
theorem State.fresh_haltPending {s : State} (h : s.HaltPending) : s.fresh.HaltPending := h

/-- A command without effect. -/
theorem State.run_id (s : State) (h : s.HaltPending) : s.run id = s.fresh :=
  State.run_eq _ _ rfl rfl (State.fresh_haltPending h)

/-- A change of the Exchange Unit alone that keeps the mode. -/
theorem State.run_modXu (f : Xu → Xu) (s : State) (h : s.HaltPending) (hm : (f s.xu).mode = s.xu.mode) :
    (s.run fun s => s.modXu f) = { s.fresh with xu := f s.xu } :=
  State.run_eq _ _ rfl rfl fun hh => h (hm.symm.trans hh)

/-- HALTING is not complete in a state whose mode is another. -/
theorem State.haltPending_of_mode {s : State} (h : s.xu.mode ≠ .halting) : s.HaltPending := fun hm => absurd hm h

/-- HALTING is not complete where mode, visits in progress, spurs and tracking list stand as they were. -/
theorem State.haltPending_congr {s t : State} (h : s.HaltPending) (hm : t.xu.mode = s.xu.mode)
    (hd : t.drained = s.drained) : t.HaltPending := fun hh => hd.trans (h (hm.symm.trans hh))

/-- The stop causes of the belt after a change, where the belt does not begin to run. -/
theorem State.beltCauses_eq (s : State) (f : Blc → Blc) (h : (f s.blc).running = false ∨ s.blc.running = true) :
    s.beltCauses f = s.modBlc f := by
  unfold State.beltCauses
  rcases h with h | h <;> simp [State.modBlc, h]

/-- Adding the stop cause MODE only stops the belt. -/
theorem State.beltMode_true (s : State) : s.beltMode true = s.modBlc fun b => { b with modeCause := true } :=
  State.beltCauses_eq s _ (Or.inl (by simp [Blc.running]))

/-- A test of the merge window with no requesting spur changes nothing. -/
theorem State.mergeTest_eq (s : State) (h : s.mergeWindow = false) : s.mergeTest = s := by
  unfold State.mergeTest; simp [h]

/-- A spur without records requests nothing. -/
theorem State.requesters_nil (s : State) (h : ∀ l ∈ s.blc.spurs, l = []) : s.requesters = [] := by
  unfold State.requesters
  rw [List.filter_eq_nil_iff]
  intro c _
  have : s.spur c = [] := by
    unfold State.spur
    rw [List.getD_eq_getElem?_getD]
    cases hx : s.blc.spurs[c - 1]? with
    | none => rfl
    | some l => exact h l (List.mem_of_getElem? hx)
  simp [State.requester, this]

/-- A state in HALTED or with work left is not complete HALTING. -/
theorem State.haltCheck_haltPending (s : State) : s.haltCheck.HaltPending := by
  unfold State.haltCheck
  split
  · rw [State.beltMode_true]
    intro h
    simp [State.setMode] at h
  · rename_i h
    intro hm
    simp only [Bool.and_eq_true, not_and, Bool.not_eq_true] at h
    exact h (by simp [hm])

theorem State.haltCheck_agenda (s : State) : s.haltCheck.agenda = s.agenda := by
  unfold State.haltCheck; split
  · rw [State.beltMode_true]; rfl
  · rfl

theorem State.haltCheck_skip (s : State) : s.haltCheck.skip = s.skip := by
  unfold State.haltCheck; split
  · rw [State.beltMode_true]; rfl
  · rfl

/-- After a command no pass is owed and HALTING is not complete. -/
theorem State.finish_rested (s : State) : s.finish.Rested where
  agenda := by unfold State.finish; rw [State.haltCheck_agenda]
  skip := by unfold State.finish; rw [State.haltCheck_skip]
  halting := by unfold State.finish; exact State.haltCheck_haltPending _

theorem State.run_rested (f : State → State) (s : State) : (s.run f).Rested := State.finish_rested _

end Sys2Proof.Machine
end

