-- ==== Sys2Proof/Laws/Exchange.lean ====
section
/-! SUPPORT. What host writes and carousel updates keep: a write inside one frame is one part, the mode stays through the
Exchange Unit's operations, and the halting test reads only the configuration, the visits in progress and the belt. -/

namespace Sys2Proof.Machine

/-! ### The halting test -/

/-- The halting test reads the configuration, the carousels and the belt. -/
theorem State.drained_congr {s t : State} (h1 : t.cfg = s.cfg) (h2 : t.cars = s.cars) (h3 : t.blc = s.blc) :
    t.drained = s.drained := by
  unfold State.drained State.configuredList State.car
  rw [h1, h2, h3]

/-- HALTING stays incomplete where mode, configuration, carousels and belt stand. -/
theorem State.haltPending_same {s t : State} (h : s.HaltPending) (h0 : t.xu.mode = s.xu.mode) (h1 : t.cfg = s.cfg)
    (h2 : t.cars = s.cars) (h3 : t.blc = s.blc) : t.HaltPending :=
  State.haltPending_congr h h0 (State.drained_congr h1 h2 h3)

/-- The halting test after one carousel's record changes with its visit in progress kept or still absent. -/
theorem State.drained_setCar {s t : State} (c : Nat) (y : Car) (hc : c - 1 < s.cars.length) (h1 : t.cfg = s.cfg)
    (h3 : t.blc = s.blc) (h2 : t.cars = s.cars.set (c - 1) y)
    (h : y.current.isNone = (s.car c).current.isNone) : t.drained = s.drained := by
  have hd : ∀ d, (t.car d).current.isNone = (s.car d).current.isNone := by
    intro d
    unfold State.car
    rw [h2]
    by_cases hd : d - 1 = c - 1
    · rw [hd]
      simp only [List.getD_eq_getElem?_getD, List.getElem?_set_self hc, Option.getD_some, h]
      simp [State.car]
    · simp [Ne.symm hd]
  unfold State.drained State.configuredList
  rw [h1, h3]
  simp only [hd]

/-- HALTING stays incomplete after such a change. -/
theorem State.haltPending_setCar {s t : State} (h : s.HaltPending) (c : Nat) (y : Car) (hc : c - 1 < s.cars.length)
    (h0 : t.xu.mode = s.xu.mode) (h1 : t.cfg = s.cfg) (h3 : t.blc = s.blc) (h2 : t.cars = s.cars.set (c - 1) y)
    (hy : y.current.isNone = (s.car c).current.isNone) : t.HaltPending :=
  State.haltPending_congr h h0 (State.drained_setCar c y hc h1 h3 h2 hy)

/-- A configured carousel's record stands in a lawful state's list. -/
theorem State.Lawful.car_lt {s : State} (h : s.Lawful) {c : Nat} (hc : s.configured c = true) :
    c - 1 < s.cars.length := by
  have h1 := h.shaped.cars
  have h2 := h.shaped.count
  simp [State.configured, Config.carousels] at *
  omega

/-! ### The Exchange Unit's operations keep the mode -/

@[simp] theorem Xu.frameReturn_mode (x : Xu) (f : Nat) (l : List Byte) (code flags : Nat) (d : List Byte) :
    (x.frameReturn f l code flags d).mode = x.mode := by
  unfold Xu.frameReturn
  rfl

@[simp] theorem Xu.capture_mode (x : Xu) (r k : Nat) (d : List Byte) : (x.capture r k d).mode = x.mode := by
  unfold Xu.capture
  dsimp only
  split <;> rfl

@[simp] theorem Xu.storeFrame_mode (x : Xu) (f i : Nat) (b : List Byte) : (x.storeFrame f i b).mode = x.mode := by
  unfold Xu.storeFrame
  dsimp only
  split
  · simp only [Xu.post, Xu.setHand, Xu.writeFrame]
  · simp only [Xu.writeFrame]

/-! ### A host write inside one region -/

/-- Bytes in one region are one part. -/
theorem writeParts_one (bs : List Byte) (o : Nat) (hne : bs ≠ [])
    (h : ∀ a, o ≤ a → a < o + bs.length → regionOf a = regionOf o) : writeParts o bs = [(o, bs)] := by
  induction bs generalizing o with
  | nil => exact absurd rfl hne
  | cons b bs ih =>
    cases bs with
    | nil => rfl
    | cons b' bs' =>
      have e := ih (o + 1) (by simp) (by
        intro a h1 h2
        rw [h a (by omega) (by simp at *; omega), h (o + 1) (by omega) (by simp)])
      unfold writeParts
      rw [e]
      simp [h (o + 1) (by omega) (by simp)]

/-- A host write inside one region of the window is one event for it (R161). -/
theorem State.hostWrite_one (s : State) (o : Nat) (bytes : List Byte) (hne : bytes ≠ [])
    (hend : o + bytes.length ≤ Config.windowEnd)
    (hreg : ∀ a, o ≤ a → a < o + bytes.length → regionOf a = regionOf o) :
    s.hostWrite o bytes = s.writePart o bytes := by
  unfold State.hostWrite
  rw [List.take_of_length_le (by omega), writeParts_one bytes o hne hreg]
  rfl

/-- Bytes of one frame lie in one region. -/
theorem regionOf_frame (f i n : Nat) (hf : f < 512) (h : i + n ≤ 128) :
    ∀ a, f * 128 + i ≤ a → a < f * 128 + i + n → regionOf a = regionOf (f * 128 + i) := by
  intro a h1 h2
  unfold regionOf
  rw [if_pos (show a < Config.noticeBase by unfold Config.noticeBase; omega),
    if_pos (show f * 128 + i < Config.noticeBase by unfold Config.noticeBase; omega)]
  show a / 128 = (f * 128 + i) / 128
  omega

/-- A part inside the frames goes to its frame. -/
theorem State.writePart_frame (s : State) (f i : Nat) (bytes : List Byte) (hf : f < 512) (hi : i < 128) :
    s.writePart (f * 128 + i) bytes = s.writeToFrame f i bytes := by
  unfold State.writePart
  rw [if_pos (by simp [Config.noticeBase]; omega)]
  have h1 : (f * 128 + i) / Config.frameBytes = f := by simp [Config.frameBytes]; omega
  have h2 : (f * 128 + i) % Config.frameBytes = i := by simp [Config.frameBytes]; omega
  rw [h1, h2]

end Sys2Proof.Machine
end

