-- ==== Sys2Proof/Laws/Orders.lean ====
section
/-! SUPPORT. What one update keeps of the laws of the device: a line's four counts add up (R101), a SET_DOWN on the spur is
asked for only with room (R47, R119), a bulk removal leaves tidy visits only (R22, R37), a frame stands at most once in the
two lists (R162). -/

namespace Sys2Proof.Machine

/-! ### A line's four counts (R101) -/

/-- The tyres of a line: reserved, in transit, delivered and unfilled. -/
def Line.tyres (l : Line) : Nat := l.reserved + l.inTransit + l.delivered + l.unfilled

theorem Line.tyres_unreserve {l : Line} (h : 0 < l.reserved) : l.unreserve.tyres = l.tyres := by
  simp only [Line.unreserve, Line.tyres]; omega

theorem Line.tyres_liftOne {l : Line} (week : Nat) (h : 0 < l.reserved) : (l.liftOne week).tyres = l.tyres := by
  simp only [Line.liftOne, Line.tyres]; omega

theorem Line.tyres_divertOne {l : Line} (h : 0 < l.inTransit) : l.divertOne.tyres = l.tyres := by
  simp only [Line.divertOne, Line.tyres]; omega

/-- A lost report with its REPLACED re-seek. -/
theorem Line.tyres_lost_reserved {l : Line} (week : Nat) (h : 0 < l.inTransit) :
    (l.loseOne week).reserveOne.tyres = l.tyres := by
  simp only [Line.loseOne, Line.reserveOne, Line.tyres]; omega

/-- A lost report SHORTENED or without a re-seek. -/
theorem Line.tyres_lost_unfilled {l : Line} (week : Nat) (h : 0 < l.inTransit) :
    (l.loseOne week).unfillOne.tyres = l.tyres := by
  simp only [Line.loseOne, Line.unfillOne, Line.tyres]; omega

/-- Admission: every line's tyres are its quantity, where nothing is in transit or delivered and no more places were
chosen than it wants. -/
theorem admitLines_tyres (lines : List Line) (got : List (List Cand))
    (h : ∀ z ∈ lines.zip got, z.1.inTransit = 0 ∧ z.1.delivered = 0 ∧ z.2.length ≤ z.1.quantity) :
    ∀ l ∈ admitLines lines got, l.tyres = l.quantity := by
  intro l hl
  simp only [admitLines, List.mem_map] at hl
  obtain ⟨z, hz, rfl⟩ := hl
  have := h z hz
  simp only [Line.tyres]
  omega

/-! ### The spurs (R119) -/

/-- With 2 records on the spur a lifted tyre waits for room. -/
theorem State.askSpur_full {s : State} {c : Nat} (h : 2 ≤ (s.spur c).length) :
    s.askSpur c = s.modPort c fun p => { p with phase := .waitRoom false } := by
  unfold State.askSpur
  rw [if_neg (by simp only [Config.spurRecords]; omega)]

/-- With fewer its SET_DOWN on the spur is issued. -/
theorem State.askSpur_room {s : State} {c : Nat} (h : (s.spur c).length < 2) :
    s.askSpur c = s.issueIn c (.setting .normal) (.setDown .spur) := by
  unfold State.askSpur
  rw [if_pos (by simp only [Config.spurRecords]; omega)]

/-! ### Visits out of service (R22) -/

/-- A bulk removal leaves tidy visits only. -/
theorem bulkRemoval_tidy (l : List Visit) : ∀ v ∈ bulkRemoval l, v.kind = .tidy := by
  intro v hv
  simpa [bulkRemoval] using (List.mem_filter.mp hv).2

/-! ### The two lists (R162) -/

/-- A post puts its frame into the intake list alone: it leaves the return list. -/
theorem Xu.post_once {x : Xu} {f : Nat} (hi : x.intake.Nodup) (hr : x.returns.Nodup) (hf : f ∉ x.intake) :
    (x.post f).intake.Nodup ∧ (x.post f).returns.Nodup ∧ f ∉ (x.post f).returns := by
  simp only [Xu.post, Xu.setHand, Xu.writeFrame]
  refine ⟨List.nodup_append.mpr ⟨hi, by simp, ?_⟩, hr.filter _, by simp⟩
  rintro a ha b hb rfl
  simp only [List.mem_singleton] at hb
  exact hf (hb ▸ ha)

/-- A return of a frame that is in neither list puts it into the return list alone. -/
theorem Xu.frameReturn_once {x : Xu} {f code flags : Nat} {l d : List Byte} (hr : x.returns.Nodup)
    (hf : f ∉ x.returns) :
    (x.frameReturn f l code flags d).returns.Nodup ∧ (x.frameReturn f l code flags d).intake = x.intake := by
  simp only [Xu.frameReturn, Xu.setHand, Xu.writeFrame]
  refine ⟨List.nodup_append.mpr ⟨hr, by simp, ?_⟩, by trivial⟩
  rintro a ha b hb rfl
  simp only [List.mem_singleton] at hb
  exact hf (hb ▸ ha)

end Sys2Proof.Machine
end

