-- ==== Sys2Proof/Laws/PerInstr.lean ====
section
/-! SUPPORT. A fact about every command as syntax: a well-formed command names a carousel of the part, a frame, a record,
a slot and a position within their tables. One lemma for each constructor. -/

namespace Sys2Proof

/-- The carousel a command names (R4). -/
def Instr.carousel : Instr → Option Nat
  | .carrierIndex c _ => some c
  | .gateOpen c => some c
  | .gateClose c _ => some c
  | .gateStopTimeout c => some c
  | .gripperGot c _ => some c
  | .gripperEmpty c _ => some c
  | .gripperDone c _ => some c
  | .gripperFault c _ => some c
  | .scanReport c _ _ _ => some c
  | .scanNoRead c => some c
  | .conversionComplete c _ => some c
  | .infeedPresentRise c => some c
  | .infeedPresentFall c => some c
  | .spurHeadRise c => some c
  | .idleTimerExpiry c => some c
  | .brakeReleaseEnd c => some c
  | .moveWatchdogExpiry c => some c
  | .actionLimitExpiry c _ => some c
  | .scanLimitExpiry c => some c
  | .settleTimerEnd c => some c
  | .completionLimitExpiry c => some c
  | .arrivalTimerExpiry c => some c
  | .cadenceTimerExpiry c => some c
  | _ => none

/-- The levels a command carries, one for each carousel (R121, R159). -/
def Instr.levels : Instr → Option (List Bool)
  | .estopRelease l => some l
  | .mergePointClearRise l => some l
  | .mergeGuardExpiry l => some l
  | _ => none

/-- A carousel number in range. -/
theorem carouselOk_range {c : Nat} (h : carouselOk c = true) : 1 ≤ c ∧ c ≤ 12 := by
  unfold carouselOk at h
  exact ⟨of_decide_eq_true (Bool.and_eq_true _ _ ▸ h).1, of_decide_eq_true (Bool.and_eq_true _ _ ▸ h).2⟩

/-- Twelve levels. -/
theorem levelsOk_length {l : List Bool} (h : levelsOk l = true) : l.length = 12 := eq_of_beq h

end Sys2Proof

/-- A command that names a carousel in range and carries no levels. -/
theorem Sys2Proof.Laws.Operands.ofCarousel {i : Sys2Proof.Instr} {c : Nat} (hc : i.carousel = some c)
    (hl : i.levels = none) (h : Sys2Proof.carouselOk c = true) :
    (∀ c, i.carousel = some c → 1 ≤ c ∧ c ≤ 12) ∧ (∀ l, i.levels = some l → l.length = 12) :=
  ⟨fun _ e => (Option.some.inj (hc.symm.trans e)) ▸ Sys2Proof.carouselOk_range h,
    fun _ e => (by rw [hl] at e; cases e)⟩

/-- A command that names no carousel and carries no levels. -/
theorem Sys2Proof.Laws.Operands.ofNone {i : Sys2Proof.Instr} (hc : i.carousel = none) (hl : i.levels = none) :
    (∀ c, i.carousel = some c → 1 ≤ c ∧ c ≤ 12) ∧ (∀ l, i.levels = some l → l.length = 12) :=
  ⟨fun _ e => (by rw [hc] at e; cases e), fun _ e => (by rw [hl] at e; cases e)⟩

/-- A command that carries twelve levels and names no carousel. -/
theorem Sys2Proof.Laws.Operands.ofLevels {i : Sys2Proof.Instr} {m : List Bool} (hc : i.carousel = none)
    (hl : i.levels = some m) (h : Sys2Proof.levelsOk m = true) :
    (∀ c, i.carousel = some c → 1 ≤ c ∧ c ≤ 12) ∧ (∀ l, i.levels = some l → l.length = 12) :=
  ⟨fun _ e => (by rw [hc] at e; cases e),
    fun _ e => (Option.some.inj (hl.symm.trans e)) ▸ Sys2Proof.levelsOk_length h⟩

/-- A well-formed command names a carousel from 1 to 12 and carries twelve levels, where it names or carries any. -/
def Sys2Proof.Laws.Operands.Statement (i : Sys2Proof.Instr) : Prop :=
  i.wellFormed = true →
    (∀ c, i.carousel = some c → 1 ≤ c ∧ c ≤ 12) ∧ (∀ l, i.levels = some l → l.length = 12)

theorem Sys2Proof.Laws.Operands.powerOnReset : Sys2Proof.Laws.Operands.Statement (.powerOnReset) :=
  fun _ => Sys2Proof.Laws.Operands.ofNone rfl rfl
theorem Sys2Proof.Laws.Operands.halt : Sys2Proof.Laws.Operands.Statement (.halt) :=
  fun _ => Sys2Proof.Laws.Operands.ofNone rfl rfl
theorem Sys2Proof.Laws.Operands.resume : Sys2Proof.Laws.Operands.Statement (.resume) :=
  fun _ => Sys2Proof.Laws.Operands.ofNone rfl rfl
theorem Sys2Proof.Laws.Operands.reset : Sys2Proof.Laws.Operands.Statement (.reset) :=
  fun _ => Sys2Proof.Laws.Operands.ofNone rfl rfl
theorem Sys2Proof.Laws.Operands.eventsClear (mask : Sys2Proof.Word) : Sys2Proof.Laws.Operands.Statement (.eventsClear mask) :=
  fun _ => Sys2Proof.Laws.Operands.ofNone rfl rfl
theorem Sys2Proof.Laws.Operands.returnRead : Sys2Proof.Laws.Operands.Statement (.returnRead) :=
  fun _ => Sys2Proof.Laws.Operands.ofNone rfl rfl
theorem Sys2Proof.Laws.Operands.registerWrite (offset : Nat) (value : Sys2Proof.Word) : Sys2Proof.Laws.Operands.Statement (.registerWrite offset value) :=
  fun _ => Sys2Proof.Laws.Operands.ofNone rfl rfl
theorem Sys2Proof.Laws.Operands.hostFrameWrite (offset : Nat) (bytes : List Sys2Proof.Byte) : Sys2Proof.Laws.Operands.Statement (.hostFrameWrite offset bytes) :=
  fun _ => Sys2Proof.Laws.Operands.ofNone rfl rfl
theorem Sys2Proof.Laws.Operands.recallRequest (frame : Nat) : Sys2Proof.Laws.Operands.Statement (.recallRequest frame) :=
  fun _ => Sys2Proof.Laws.Operands.ofNone rfl rfl
theorem Sys2Proof.Laws.Operands.trespass (offset : Nat) (bytes : List Sys2Proof.Byte) : Sys2Proof.Laws.Operands.Statement (.trespass offset bytes) :=
  fun _ => Sys2Proof.Laws.Operands.ofNone rfl rfl
theorem Sys2Proof.Laws.Operands.reArm (record : Nat) : Sys2Proof.Laws.Operands.Statement (.reArm record) :=
  fun _ => Sys2Proof.Laws.Operands.ofNone rfl rfl
theorem Sys2Proof.Laws.Operands.configure : Sys2Proof.Laws.Operands.Statement (.configure) :=
  fun _ => Sys2Proof.Laws.Operands.ofNone rfl rfl
theorem Sys2Proof.Laws.Operands.start : Sys2Proof.Laws.Operands.Statement (.start) :=
  fun _ => Sys2Proof.Laws.Operands.ofNone rfl rfl
theorem Sys2Proof.Laws.Operands.article : Sys2Proof.Laws.Operands.Statement (.article) :=
  fun _ => Sys2Proof.Laws.Operands.ofNone rfl rfl
theorem Sys2Proof.Laws.Operands.stockLoad : Sys2Proof.Laws.Operands.Statement (.stockLoad) :=
  fun _ => Sys2Proof.Laws.Operands.ofNone rfl rfl
theorem Sys2Proof.Laws.Operands.store : Sys2Proof.Laws.Operands.Statement (.store) :=
  fun _ => Sys2Proof.Laws.Operands.ofNone rfl rfl
theorem Sys2Proof.Laws.Operands.order : Sys2Proof.Laws.Operands.Statement (.order) :=
  fun _ => Sys2Proof.Laws.Operands.ofNone rfl rfl
theorem Sys2Proof.Laws.Operands.laneClear : Sys2Proof.Laws.Operands.Statement (.laneClear) :=
  fun _ => Sys2Proof.Laws.Operands.ofNone rfl rfl
theorem Sys2Proof.Laws.Operands.glance : Sys2Proof.Laws.Operands.Statement (.glance) :=
  fun _ => Sys2Proof.Laws.Operands.ofNone rfl rfl
theorem Sys2Proof.Laws.Operands.recount : Sys2Proof.Laws.Operands.Statement (.recount) :=
  fun _ => Sys2Proof.Laws.Operands.ofNone rfl rfl
theorem Sys2Proof.Laws.Operands.cadence : Sys2Proof.Laws.Operands.Statement (.cadence) :=
  fun _ => Sys2Proof.Laws.Operands.ofNone rfl rfl
theorem Sys2Proof.Laws.Operands.enterMaintenance : Sys2Proof.Laws.Operands.Statement (.enterMaintenance) :=
  fun _ => Sys2Proof.Laws.Operands.ofNone rfl rfl
theorem Sys2Proof.Laws.Operands.setScore : Sys2Proof.Laws.Operands.Statement (.setScore) :=
  fun _ => Sys2Proof.Laws.Operands.ofNone rfl rfl
theorem Sys2Proof.Laws.Operands.leaveMaintenance : Sys2Proof.Laws.Operands.Statement (.leaveMaintenance) :=
  fun _ => Sys2Proof.Laws.Operands.ofNone rfl rfl
theorem Sys2Proof.Laws.Operands.restore : Sys2Proof.Laws.Operands.Statement (.restore) :=
  fun _ => Sys2Proof.Laws.Operands.ofNone rfl rfl
theorem Sys2Proof.Laws.Operands.bayRead : Sys2Proof.Laws.Operands.Statement (.bayRead) :=
  fun _ => Sys2Proof.Laws.Operands.ofNone rfl rfl
theorem Sys2Proof.Laws.Operands.stockQuery : Sys2Proof.Laws.Operands.Statement (.stockQuery) :=
  fun _ => Sys2Proof.Laws.Operands.ofNone rfl rfl
theorem Sys2Proof.Laws.Operands.orderQuery : Sys2Proof.Laws.Operands.Statement (.orderQuery) :=
  fun _ => Sys2Proof.Laws.Operands.ofNone rfl rfl
theorem Sys2Proof.Laws.Operands.carrierIndex (c : Nat) (home : Bool) : Sys2Proof.Laws.Operands.Statement (.carrierIndex c home) :=
  fun h => Sys2Proof.Laws.Operands.ofCarousel rfl rfl h
theorem Sys2Proof.Laws.Operands.gateOpen (c : Nat) : Sys2Proof.Laws.Operands.Statement (.gateOpen c) :=
  fun h => Sys2Proof.Laws.Operands.ofCarousel rfl rfl h
theorem Sys2Proof.Laws.Operands.gateClose (c : Nat) (load : Bool) : Sys2Proof.Laws.Operands.Statement (.gateClose c load) :=
  fun h => Sys2Proof.Laws.Operands.ofCarousel rfl rfl h
theorem Sys2Proof.Laws.Operands.estopAssert : Sys2Proof.Laws.Operands.Statement (.estopAssert) :=
  fun _ => Sys2Proof.Laws.Operands.ofNone rfl rfl
theorem Sys2Proof.Laws.Operands.estopRelease (loads : List Bool) : Sys2Proof.Laws.Operands.Statement (.estopRelease loads) :=
  fun h => Sys2Proof.Laws.Operands.ofLevels rfl rfl h
theorem Sys2Proof.Laws.Operands.gateStopTimeout (c : Nat) : Sys2Proof.Laws.Operands.Statement (.gateStopTimeout c) :=
  fun h => Sys2Proof.Laws.Operands.ofCarousel rfl rfl h
theorem Sys2Proof.Laws.Operands.gripperGot (c : Nat) (load : Bool) : Sys2Proof.Laws.Operands.Statement (.gripperGot c load) :=
  fun h => Sys2Proof.Laws.Operands.ofCarousel rfl rfl h
theorem Sys2Proof.Laws.Operands.gripperEmpty (c : Nat) (load : Bool) : Sys2Proof.Laws.Operands.Statement (.gripperEmpty c load) :=
  fun h => Sys2Proof.Laws.Operands.ofCarousel rfl rfl h
theorem Sys2Proof.Laws.Operands.gripperDone (c : Nat) (load : Bool) : Sys2Proof.Laws.Operands.Statement (.gripperDone c load) :=
  fun h => Sys2Proof.Laws.Operands.ofCarousel rfl rfl h
theorem Sys2Proof.Laws.Operands.gripperFault (c : Nat) (load : Bool) : Sys2Proof.Laws.Operands.Statement (.gripperFault c load) :=
  fun h => Sys2Proof.Laws.Operands.ofCarousel rfl rfl h
theorem Sys2Proof.Laws.Operands.scanReport (c : Nat) (article : Nat) (year : Nat) (week : Nat) : Sys2Proof.Laws.Operands.Statement (.scanReport c article year week) :=
  fun h => Sys2Proof.Laws.Operands.ofCarousel rfl rfl (Bool.and_eq_true _ _ ▸ h : _ ∧ _).1
theorem Sys2Proof.Laws.Operands.scanNoRead (c : Nat) : Sys2Proof.Laws.Operands.Statement (.scanNoRead c) :=
  fun h => Sys2Proof.Laws.Operands.ofCarousel rfl rfl h
theorem Sys2Proof.Laws.Operands.conversionComplete (c : Nat) (code : Nat) : Sys2Proof.Laws.Operands.Statement (.conversionComplete c code) :=
  fun h => Sys2Proof.Laws.Operands.ofCarousel rfl rfl (Bool.and_eq_true _ _ ▸ h : _ ∧ _).1
theorem Sys2Proof.Laws.Operands.infeedPresentRise (c : Nat) : Sys2Proof.Laws.Operands.Statement (.infeedPresentRise c) :=
  fun h => Sys2Proof.Laws.Operands.ofCarousel rfl rfl h
theorem Sys2Proof.Laws.Operands.infeedPresentFall (c : Nat) : Sys2Proof.Laws.Operands.Statement (.infeedPresentFall c) :=
  fun h => Sys2Proof.Laws.Operands.ofCarousel rfl rfl h
theorem Sys2Proof.Laws.Operands.spurHeadRise (c : Nat) : Sys2Proof.Laws.Operands.Statement (.spurHeadRise c) :=
  fun h => Sys2Proof.Laws.Operands.ofCarousel rfl rfl h
theorem Sys2Proof.Laws.Operands.mergePointClearRise (heads : List Bool) : Sys2Proof.Laws.Operands.Statement (.mergePointClearRise heads) :=
  fun h => Sys2Proof.Laws.Operands.ofLevels rfl rfl h
theorem Sys2Proof.Laws.Operands.sorterScan (article : Nat) (year : Nat) (week : Nat) : Sys2Proof.Laws.Operands.Statement (.sorterScan article year week) :=
  fun _ => Sys2Proof.Laws.Operands.ofNone rfl rfl
theorem Sys2Proof.Laws.Operands.sorterNoRead : Sys2Proof.Laws.Operands.Statement (.sorterNoRead) :=
  fun _ => Sys2Proof.Laws.Operands.ofNone rfl rfl
theorem Sys2Proof.Laws.Operands.idleTimerExpiry (c : Nat) : Sys2Proof.Laws.Operands.Statement (.idleTimerExpiry c) :=
  fun h => Sys2Proof.Laws.Operands.ofCarousel rfl rfl h
theorem Sys2Proof.Laws.Operands.brakeReleaseEnd (c : Nat) : Sys2Proof.Laws.Operands.Statement (.brakeReleaseEnd c) :=
  fun h => Sys2Proof.Laws.Operands.ofCarousel rfl rfl h
theorem Sys2Proof.Laws.Operands.moveWatchdogExpiry (c : Nat) : Sys2Proof.Laws.Operands.Statement (.moveWatchdogExpiry c) :=
  fun h => Sys2Proof.Laws.Operands.ofCarousel rfl rfl h
theorem Sys2Proof.Laws.Operands.actionLimitExpiry (c : Nat) (load : Bool) : Sys2Proof.Laws.Operands.Statement (.actionLimitExpiry c load) :=
  fun h => Sys2Proof.Laws.Operands.ofCarousel rfl rfl h
theorem Sys2Proof.Laws.Operands.scanLimitExpiry (c : Nat) : Sys2Proof.Laws.Operands.Statement (.scanLimitExpiry c) :=
  fun h => Sys2Proof.Laws.Operands.ofCarousel rfl rfl h
theorem Sys2Proof.Laws.Operands.settleTimerEnd (c : Nat) : Sys2Proof.Laws.Operands.Statement (.settleTimerEnd c) :=
  fun h => Sys2Proof.Laws.Operands.ofCarousel rfl rfl h
theorem Sys2Proof.Laws.Operands.completionLimitExpiry (c : Nat) : Sys2Proof.Laws.Operands.Statement (.completionLimitExpiry c) :=
  fun h => Sys2Proof.Laws.Operands.ofCarousel rfl rfl h
theorem Sys2Proof.Laws.Operands.arrivalTimerExpiry (c : Nat) : Sys2Proof.Laws.Operands.Statement (.arrivalTimerExpiry c) :=
  fun h => Sys2Proof.Laws.Operands.ofCarousel rfl rfl h
theorem Sys2Proof.Laws.Operands.pickTimerExpiry (slot : Nat) : Sys2Proof.Laws.Operands.Statement (.pickTimerExpiry slot) :=
  fun _ => Sys2Proof.Laws.Operands.ofNone rfl rfl
theorem Sys2Proof.Laws.Operands.mergeGuardExpiry (heads : List Bool) : Sys2Proof.Laws.Operands.Statement (.mergeGuardExpiry heads) :=
  fun h => Sys2Proof.Laws.Operands.ofLevels rfl rfl h
theorem Sys2Proof.Laws.Operands.transitTimerExpiry (position : Nat) : Sys2Proof.Laws.Operands.Statement (.transitTimerExpiry position) :=
  fun _ => Sys2Proof.Laws.Operands.ofNone rfl rfl
theorem Sys2Proof.Laws.Operands.cadenceTimerExpiry (c : Nat) : Sys2Proof.Laws.Operands.Statement (.cadenceTimerExpiry c) :=
  fun h => Sys2Proof.Laws.Operands.ofCarousel rfl rfl h
theorem Sys2Proof.Laws.Operands.uptimeTick : Sys2Proof.Laws.Operands.Statement (.uptimeTick) :=
  fun _ => Sys2Proof.Laws.Operands.ofNone rfl rfl
theorem Sys2Proof.Laws.Operands.reseekWithdrawn : Sys2Proof.Laws.Operands.Statement (.reseekWithdrawn) :=
  fun _ => Sys2Proof.Laws.Operands.ofNone rfl rfl
theorem Sys2Proof.Laws.Operands.refusedKind : Sys2Proof.Laws.Operands.Statement (.refusedKind) :=
  fun _ => Sys2Proof.Laws.Operands.ofNone rfl rfl
theorem Sys2Proof.Laws.Operands.mergePointClearFall : Sys2Proof.Laws.Operands.Statement (.mergePointClearFall) :=
  fun _ => Sys2Proof.Laws.Operands.ofNone rfl rfl
end

