-- ==== Sys2Proof/Tests/Slice0.lean ====
section
/-! SUPPORT. Tests: the refusals of WellFormed, one small step of each command family, and for every statement a state and
operands that meet its hypotheses, clause by clause. -/

namespace Sys2Proof.Tests

set_option Elab.async false

open Sys2Proof Sys2Proof.Machine

/-! ### Lawfulness as a computation -/

/-- `State.Lawful` as a Bool. -/
def lawfulB (s : State) : Bool :=
  s.xu.hands.length == 512 && s.xu.notices.length == 16 && s.stb.stock.length == 12 &&
    s.stb.stock.all (fun x => x.bays.length == 40) && s.cars.length == 12 && s.pau.length == 12 &&
    s.odt.orders.length == 64 && s.odt.lanes.length == 16 && s.blc.spurs.length == 12 && s.aud.records.length == 8 &&
    s.aud.cadence.length == 12 && s.lines.cars.length == 12 && decide (s.cfg.count ≤ 12) && Memory.wf s.xu.mem &&
    decide (s.blc.tracking.length ≤ 48) && decide (s.blc.chute ≤ 24) && (s.blc.chute != 24 || s.blc.chuteCause) &&
    s.blc.modeCause == (s.xu.mode == .setup || s.xu.mode == .halted) && s.agenda.isEmpty && s.skip.isEmpty &&
    (s.xu.mode != .halting || !s.drained)

/-- The computation decides lawfulness. -/
theorem lawful_iff (s : State) : s.Lawful ↔ lawfulB s = true := by
  have h : lawfulB s = true ↔ (s.Shaped ∧ Memory.wf s.xu.mem = true ∧ s.BeltLaw ∧ s.Rested) := by
    simp only [lawfulB, Bool.and_eq_true, beq_iff_eq, List.all_eq_true, decide_eq_true_eq, Bool.or_eq_true,
      bne_iff_ne, ne_eq, Bool.not_eq_true', List.isEmpty_iff]
    constructor
    · rintro ⟨⟨⟨⟨⟨⟨⟨⟨⟨⟨⟨⟨⟨⟨⟨⟨⟨⟨⟨⟨h1, h2⟩, h3⟩, h4⟩, h5⟩, h6⟩, h7⟩, h8⟩, h9⟩, h10⟩, h11⟩, h12⟩, h13⟩, h14⟩, h15⟩, h16⟩, h17⟩,
        h18⟩, h19⟩, h20⟩, h21⟩
      exact ⟨⟨h1, h2, ⟨h3, h4⟩, h5, h6, h7, h8, h9, h10, h11, h12, h13⟩, h14,
        ⟨h15, h16, fun h => h17.resolve_left (fun hn => hn h), h18⟩,
        ⟨h19, h20, fun h => h21.resolve_left (fun hn => hn h)⟩⟩
    · rintro ⟨⟨h1, h2, ⟨h3, h4⟩, h5, h6, h7, h8, h9, h10, h11, h12, h13⟩, h14, ⟨h15, h16, h17, h18⟩, ⟨h19, h20, h21⟩⟩
      refine ⟨⟨⟨⟨⟨⟨⟨⟨⟨⟨⟨⟨⟨⟨⟨⟨⟨⟨⟨⟨h1, h2⟩, h3⟩, h4⟩, h5⟩, h6⟩, h7⟩, h8⟩, h9⟩, h10⟩, h11⟩, h12⟩, h13⟩, h14⟩, h15⟩, h16⟩, ?_⟩,
        h18⟩, h19⟩, h20⟩, ?_⟩
      · by_cases hc : s.blc.chute = 24
        · exact Or.inr (h17 hc)
        · exact Or.inl hc
      · by_cases hm : s.xu.mode = .halting
        · exact Or.inr (h21 hm)
        · exact Or.inl hm
  rw [h]
  exact ⟨fun l => ⟨l.shaped, l.mem, l.belt, l.rested⟩, fun ⟨a, b, c, d⟩ => ⟨a, b, c, d⟩⟩

/-! ### Small states -/

/-- A configured carousel at rest. -/
def restCar : Car := { Car.reset false false with state := .idle, offset := some 0, powered := true, idle := some 0 }

/-- RUNNING with two configured carousels at rest. -/
def base : State := { State.reset with
  xu := { State.reset.xu with mode := .running, configureTaken := true }
  cfg := { Cfg.reset with count := 2 }
  cars := restCar :: restCar :: List.replicate 10 (Car.reset false false)
  blc := { State.reset.blc with modeCause := false } }

/-- `base` with another record of carousel 1. -/
def withCar (x : Car) : State := base.setCar 1 x

/-- SETUP with the configuration taken. -/
def configured : State := { State.reset with
  xu := { State.reset.xu with configureTaken := true }, cfg := { Cfg.reset with count := 2 } }

/-- A label and an article of it. -/
def lbl : Label := ⟨5, ⟨20, 10⟩⟩

/-- One tyre in bay 0 of carousel 1, with a mark or none. -/
def stock (m : Option Mark) : Stb :=
  ((Stb.reset.setArticle 5 ⟨true, 200, 100, false⟩).setStack 1 0 [⟨lbl, m, 0⟩]).putBatch ⟨lbl, 1, m.isSome.toNat⟩

/-- A state with that stock. -/
def stocked (s : State) (m : Option Mark) : State := { s with stb := stock m }

/-- A visit in progress at carrier 0. -/
def visit (kind : VisitKind) (actions : List Action) : Visit := ⟨0, kind, some 0, 0, [], none, [], actions, 0, []⟩

/-- A carousel with a visit at the port. -/
def busyCar (v : Visit) (p : Port) : Car :=
  { restCar with state := .visiting, sub := some .atPort, idle := none, current := some v, port := p }

/-- The port at rest but for a command outstanding in a phase. -/
def portWith (cmd : GripCmd) (ph : Phase) : Port :=
  { Port.reset with cmd := some cmd, actionLimit := some 0, phase := ph }

/-- Frame 0 holds a docket with a right check word, at the head of the intake list. -/
def offer (s : State) (kind : Nat) (body : List Byte) : State :=
  let x := s.xu.writeFrame 0 0 ([0xA5, byte kind, 0, 0, 0, 0, byte body.length, 0] ++ body)
  let sum := ((List.range 50).map fun i => x.frameNat 0 (4 + 2 * i) 2).sum
  { s with xu := { (x.writeFrame 0 2 (le16 sum)).setHand 0 .intake with intake := [0] } }

/-- An order in slot 3, lane 1, with one tyre reserved and one in transit. -/
def order3 (st : OrderState) : Order :=
  ⟨7, 1, false, 1, st, some 1, [⟨5, 2, .any, 1, 1, 0, 0, 0, [1069]⟩], 0, .running, false, 9⟩

/-- A state with that order. -/
def withOrder (s : State) (st : OrderState) : State :=
  (s.setOrder 3 (some (order3 st))).setLane 1 ⟨.filling, some 3, 7, 0⟩

/-- A spur record and a tracking record of that order. -/
def spurRec : SpurRec := ⟨3, 1, lbl, 1, 1⟩
def trackRec : TrackRec := ⟨spurRec, 1, 0⟩

/-- A store record of carousel 1 in a state. -/
def withStore (s : State) (st : StoreState) (p : Pau) : State :=
  s.modPau 1 fun _ => { p with store := some { newStore lbl 2 8 with state := st } }

/-! ### States that meet the hypotheses of the statements -/

/-- HALTING with a visit in progress. -/
def halting : State := { withCar (busyCar (visit .glance [.gauge 0]) Port.reset) with
  xu := { base.xu with mode := .halting } }
/-- HALTED. -/
def halted : State := { base with xu := { base.xu with mode := .halted }, blc := State.reset.blc }
/-- Frame 0 in a hand state. -/
def inHand (h : Hand) : State := base.modXu fun x => { x.setHand 0 h with intake := if h = .intake then [0] else [] }
/-- The store of carousel 1 waits for its tyre. -/
def waiting : State := withStore base .waitingArrival { Pau.reset with arrival := some 0 }
/-- The store of carousel 1 is placing, with no placement visit. -/
def placing : State := withStore base .placing Pau.reset
/-- The START of frame 8 in work awaits carousel 1 alone, at the last pulse of its home pass. -/
def lastPulse : State := { configured.setCar 1 { Car.reset false false with
    state := .homing, pass := some ⟨true, false, 19⟩, drive := some ⟨.forward, .creep⟩, offset := some 19 } with
  xu := { configured.xu with start := some ⟨8, [1], List.replicate 12 0⟩ } }
/-- Carousel 1 drives. -/
def driving (x : Car) : State :=
  withCar { x with state := .visiting, drive := some ⟨.forward, .full⟩, powered := true, brakeHeld := false, idle := none }
/-- Carousel 1 works at an action of a lift visit. -/
def working (a : Action) (p : Port) : State := (stocked base (some ⟨3, 1⟩)).setCar 1 (busyCar (visit .lift [a]) p)
/-- A LIFT of bay 0. -/
def lift0 : Action := .lift ⟨3, 1⟩ 0 0 false
/-- The gripper of carousel 1 holds the tyre of bay 0. -/
def gripping (s : State) : State := { s with stb := s.stb.takeBay 1 0 }
/-- The belt carries a record of the order in slot 3. -/
def onBelt (st : OrderState) : State := (withOrder base st).modBlc fun b => { b with tracking := [trackRec] }
/-- The spur of carousel 1 holds a record, and its head stands at the gate. -/
def atSpur : State :=
  ((withOrder base .picking).modBlc fun b => b.setSpur 1 [spurRec]).modCarLines 1 fun l => { l with spurHead := true }
/-- A batch of one withdrawn mark. -/
def batch : ReseekBatch := ⟨.identity, none, none, [⟨⟨3, 1⟩, 1⟩], 0, 0, 0⟩
/-- An audit record of a recount of bay 0 with a tyre moved. -/
def audit : AuditRec := { newAudit true 1 0 8 false [0] with phase := .pass1, visit := .inProgress 0, moved := 1, gripped := true }
/-- The two-week span of a set rule's windows. -/
def cands : List Cand := [⟨1, 0, 0, 10⟩, ⟨1, 2, 0, 11⟩, ⟨1, 4, 0, 11⟩]
/-- Bodies of dockets. -/
def configureBody : List Byte := [2, 12, 2, 0] ++ le16 1500 ++ le16 120 ++ le16 1800 ++ [96]
def articleBody (pitch : Nat) : List Byte := le16 5 ++ le16 pitch ++ le16 100 ++ [0]
def loadBody : List Byte := [1, 2, 1, 0] ++ lbl.bytes
def storeBody : List Byte := [1, 2] ++ lbl.bytes
def orderBody (article : Nat) : List Byte := le32 7 ++ [0, 0, 1, 0] ++ le16 article ++ [1, 0, 0, 0]
def glanceBody : List Byte := [1, 0, 1, 0, 2]

/-! ### Ill-formed commands are refused -/

theorem test_carouselOutOfRange :
    ∀ c ∈ [0, 13], Instr.wellFormed (.gateOpen c) = false ∧ Instr.wellFormed (.carrierIndex c true) = false ∧
      Instr.wellFormed (.gripperGot c false) = false ∧ Instr.wellFormed (.scanReport c 5 20 10) = false ∧
      Instr.wellFormed (.conversionComplete c 0) = false ∧ Instr.wellFormed (.cadenceTimerExpiry c) = false := by decide

theorem test_labelOutOfRange :
    ∀ l ∈ [(0, 20, 10), (2048, 20, 10), (5, 100, 10), (5, 20, 0), (5, 20, 54)],
      Instr.wellFormed (.sorterScan l.1 l.2.1 l.2.2) = false ∧
      Instr.wellFormed (.scanReport 1 l.1 l.2.1 l.2.2) = false := by decide

theorem test_numberOutOfTable :
    Instr.wellFormed (.recallRequest 512) = false ∧ Instr.wellFormed (.reArm 16) = false ∧
    Instr.wellFormed (.pickTimerExpiry 64) = false ∧ Instr.wellFormed (.transitTimerExpiry 48) = false ∧
    Instr.wellFormed (.conversionComplete 1 4096) = false := by decide

/-- Empty, across two frames, a frame and the notices, across the end of the window, and no frame at all. -/
theorem test_writeOutOfRange :
    Instr.wellFormed (.hostFrameWrite 0 []) = false ∧ Instr.wellFormed (.hostFrameWrite 127 [0, 0]) = false ∧
    Instr.wellFormed (.trespass 0xFFFF [0, 0]) = false ∧ Instr.wellFormed (.trespass 0x101FF [0, 0]) = false ∧
    Instr.wellFormed (.trespass 0x10FFF [0, 0]) = false ∧ Instr.wellFormed (.hostFrameWrite 0x10000 [0]) = false := by
  decide

theorem test_levelsNotTwelve :
    Instr.wellFormed (.estopRelease []) = false ∧ Instr.wellFormed (.mergePointClearRise [true]) = false ∧
    Instr.wellFormed (.mergeGuardExpiry (List.replicate 13 true)) = false := by decide

theorem test_edgesAreWellFormed :
    Instr.wellFormed (.gateOpen 12) = true ∧ Instr.wellFormed (.sorterScan 2047 99 53) = true ∧
    Instr.wellFormed (.recallRequest 511) = true ∧ Instr.wellFormed (.reArm 15) = true ∧
    Instr.wellFormed (.hostFrameWrite 0xFFFF [0]) = true ∧ Instr.wellFormed (.trespass 0x10FFF [0]) = true ∧
    Instr.wellFormed (.pickTimerExpiry 63) = true ∧ Instr.wellFormed (.transitTimerExpiry 47) = true ∧
    Instr.wellFormed (.conversionComplete 1 4095) = true ∧
    Instr.wellFormed (.estopRelease (List.replicate 12 true)) = true := by decide

/-- The table gives no row any bits, so no word spells a command. -/
theorem test_noWordSpellsACommand (n w : Nat) : decodeTableWord n w = none := rfl

/-- An ill-formed command only takes the pulses of the command before away (log 34). -/
theorem test_illFormedHasNoEffect : exec (.gateOpen 13) base = .next base.fresh := by rfl

/-! ### Small steps -/

/-- The load-present level of the moment decides whether a visit that ends at its scan limit asks for a tidy visit
(R63, R64). -/
theorem test_scanLimitReadsLoad :
    ∀ load ∈ [true, false],
      let v := visit .placement [.intake]
      let s := { withCar (busyCar v { Port.reset with phase := .scanning, scan := .first, scanLimit := some 0 }) with
        levels := [⟨[load], []⟩] }
      (match exec (.scanLimitExpiry 1) s with
        | .next t => (((t.car 1).current.map fun v => (v.kind, v.actions)), t.levels)
        | _ => (none, [])) = (if load then some (.tidy, [.place .infeed]) else none, []) := by decide +kernel

/-- A spur whose head line has fallen asks for no merge (R120). -/
theorem test_fallenHeadAsksForNoMerge :
    let s := (withOrder base .picking).modBlc fun b => b.setSpur 1 [spurRec]
    ({ s with levels := [⟨[], [true]⟩] } : State).fresh.requesters = [1] ∧
    ({ s with levels := [⟨[], [false]⟩] } : State).fresh.requesters = [] := by decide +kernel

/-- A recalled STORE whose placement visit waits with its tyre at the infeed gets both pulses (R79, R81). -/
theorem test_recallGivesBothPulses :
    let v : Visit := { visit .placement [.intake] with target := none }
    let s := ((withStore base .placing Pau.reset).modXu fun x => x.setHand 8 (.work false)).modCarLines 1 fun l =>
      { l with infeed := true }
    (match exec (.recallRequest 8) (s.modCar 1 fun x => { x with visits := [v] }) with | .next t => t.outs | _ => []) =
      [.reject 1, .reject 1] := by decide +kernel

/-- A listed EMPTY records no unrecorded-grip place, a FAULT does (R44). -/
theorem test_listedEmptyRecordsNoPlace :
    let s := withCar (busyCar (visit .tidy [.back 0]) (portWith .gripRack .gripping))
    (match exec (.gripperEmpty 1 true) s with | .next t => (t.car 1).port.unrecorded | _ => none) = none ∧
    (match exec (.gripperFault 1 true) s with | .next t => (t.car 1).port.unrecorded | _ => none) = some .rack := by
  decide +kernel

/-- A re-seek for a mark of an order that has left its slot does not touch the order that is there now (R101). -/
theorem test_reseekForAnotherOrderIsGone :
    let s := { withOrder (stocked base none) .picking with rse := [{ batch with items := [⟨⟨3, 1⟩, 9⟩] }] }
    (match exec .reseekWithdrawn s with | .next t => (t.order 3, t.rse) | _ => (none, [batch])) =
      (some (order3 .picking), []) := by decide +kernel

/-- A lift that bay 0's plan cannot reach, and an unmarked tyre of its line on the closed sister bay. -/
def unreachable0 (free : Bool) : State :=
  let t := (stock none).setStack 1 0 (List.replicate 8 ⟨⟨7, ⟨20, 10⟩⟩, none, 0⟩ ++ [⟨lbl, some ⟨3, 1⟩, 8⟩])
  let t := t.setStack 1 1 ((if free then [⟨lbl, none, 0⟩] else []) ++ [⟨lbl, some ⟨9, 1⟩, 0⟩])
  { withOrder { halted with stb := t } .picking with serial := 10 }.modCar 1 fun x => { x with
    visits := [{ visit .lift [] with id := 5, demands := [⟨3, 1, 0, 8, 8⟩] }] }

/-- A lift visit ends with an empty plan, and its demand goes on to the sister bay (R60): the new lift visit is chosen at
once, while a visit that only carries the same demands over is not (R38, log 10). -/
theorem test_movedDemandIsChosen :
    ∀ free ∈ [true, false],
      (match exec .resume (unreachable0 free) with
        | .next t => ((t.car 1).state, (t.car 1).current.map (·.actions), (t.car 1).visits.map (·.demands), t.skip)
        | _ => (.offline, none, [], [])) =
      (if free then (.visiting, some [.lift ⟨3, 1⟩ 1 0 false], [], []) else (.idle, none, [[⟨3, 1, 0, 8, 8⟩]], [])) := by
  decide +kernel

/-! ### Hypotheses met: the machine, the registers and the exchange -/

theorem wit_IdleStepTicksTimers :
    (base.pending = [] ∧ base.cars[0]? = some restCar ∧ restCar.lockCause = false) ∧
    (State.reset.pending = [] ∧ State.reset.blc.running = false ∧ State.reset.xu.mode ≠ .running) ∧
    ((withCar { restCar with gateCause := true }).pending = [] ∧ (base.car 1).lockCause = false ∧
      ((withCar { restCar with gateCause := true }).cars[0]?).map Car.lockCause = some true) := by decide +kernel

theorem wit_EveryStepKeepsLawful : base.Lawful ∧ step base = .next base.tick :=
  ⟨(lawful_iff _).mpr (by decide +kernel), rfl⟩

theorem wit_OnlyTheirCommandsChangeSettings :
    exec .powerOnReset base = .next { State.reset with lines := base.lines } ∧
    (exec .halt base = .next (base.run State.halt) ∧ Instr.halt.isReset = false ∧ Instr.halt ≠ .configure ∧
      Instr.halt ≠ .article ∧ Instr.halt ≠ .uptimeTick ∧ ∀ v, Instr.halt ≠ .registerWrite 0x0C v) :=
  ⟨rfl, rfl, rfl, by decide, by decide, by decide, fun _ => by simp⟩

theorem wit_ResetsSetValues :
    (4 : Word).getLsbD 2 = true ∧ base.lines.cars[0]? = some ⟨false, false, false, false⟩ := by decide +kernel

theorem wit_HaltAndResumeChangeMode :
    ((withCar (busyCar (visit .glance []) Port.reset)).xu.mode = .running ∧
      (withCar (busyCar (visit .glance []) Port.reset)).drained = false) ∧
    (base.xu.mode = .running ∧ base.drained = true) ∧
    (halting.xu.mode ≠ .running ∧ halting.HaltPending) ∧ (halted.xu.mode ≠ .running ∧ halted.HaltPending) ∧
    (halting.xu.mode = .halting ∧ (∀ l ∈ halting.blc.spurs, l = []) ∧ ∀ x ∈ halting.cars, x.visits = []) ∧
    halted.xu.mode = .halted ∧ State.reset.xu.mode = .setup ∧ base.xu.mode = .running := by decide +kernel

theorem wit_RegisterAccesses :
    base.HaltPending ∧
    ((1 : Word).getLsbD 2 = false ∧ (1 : Word).getLsbD 0 = true ∧ (1 : Word).getLsbD 1 = false) ∧
    ((2 : Word).getLsbD 2 = false ∧ (2 : Word).getLsbD 0 = false ∧ (2 : Word).getLsbD 1 = true) ∧
    ((3 : Word).getLsbD 2 = false ∧ (3 : Word).getLsbD 0 = (3 : Word).getLsbD 1) ∧
    ((0 : Nat) ≠ 0x04 ∧ (0 : Nat) ≠ 0x08 ∧ (0 : Nat) ≠ 0x0C) ∧ base.xu.returns = [] ∧
    (base.modXu fun x => { x with returns := [5, 6] }).xu.returns = 5 :: [6] ∧ base.xu.notices[15]?.isSome = true ∧
    (base.modXu fun x => { x with returns := [5, 6], enable := 1 }).xu.interrupt = true ∧ base.xu.interrupt = false := by
  decide +kernel

/-- A host reads a carousel's and a lane's entry of the status page at its edges (R171). -/
theorem test_statusPage :
    (driving restCar).carouselEntry 1 = [4, 0, 0, 0, 0, 0, 0, 0, 0, 0, 0, 0, 0, 0, 0, 0] ∧
    ((base.setLane 16 ⟨.disbanded, none, 70000, 3⟩).windowByte 0x10348 = 3) ∧
    ((base.setLane 16 ⟨.disbanded, none, 70000, 3⟩).windowByte 0x1034E = 1) ∧
    base.windowByte 0x10351 = 1 ∧ base.windowByte 0x102C0 = 0 ∧ base.windowByte 0x102C1 = 255 := by decide +kernel

theorem wit_HostWriteStoresAndPosts :
    (511 < 512 ∧ ([7] : List Byte) ≠ [] ∧ 127 + ([7] : List Byte).length ≤ 128 ∧ base.xu.hand 511 = .host ∧
    ¬ ((127 : Nat) = 0 ∧ ([7] : List Byte).head? = some 0xA5) ∧ Memory.wf base.xu.mem = true ∧ base.HaltPending) ∧
    (0 < 512 ∧ ([0xA5] : List Byte).head? = some 0xA5 ∧ ([0xA5] : List Byte).length ≤ 128 ∧ base.xu.hand 0 = .host ∧
    Memory.wf base.xu.mem = true ∧ base.HaltPending) ∧
    (510 + (List.replicate 4 (7 : Byte)).length ≤ 0x10000 ∧ ∀ i < 4, base.xu.hand ((510 + i) / 128) = .host ∧
      ((510 + i) % 128 = 0 → (List.replicate 4 (7 : Byte)).getD i 0 ≠ 0xA5)) ∧
    base.levels = [] ∧ (65535 + ([1] : List Byte).length) % 128 = 0 ∧ 65535 + ([1] : List Byte).length ≤ 0x10000 ∧
    66047 + ([1] : List Byte).length = 0x10200 := by decide +kernel

/-- Frames 3 and 4 in two hand states. -/
def twoFrames (a b : Hand) : State := base.modXu fun x => (x.setHand 3 a).setHand 4 b

/-- A write over two frames: stored in the first and a trespass in the second, or a trespass and a recall (R161). -/
theorem test_writeOverTwoFrames :
    (match exec (.hostFrameWrite 511 [7, 8]) (twoFrames .host .intake) with
      | .next t => (Memory.read t.xu.mem 511, Memory.read t.xu.mem 512, t.xu.trespasses) | _ => (0, 0, 0)) = (7, 0, 1) ∧
    (match exec (.hostFrameWrite 511 [7, 0x3C]) (twoFrames .intake .intake) with
      | .next t => (t.xu.returns, t.xu.trespasses) | _ => ([], 0)) = ([4], 1) := by decide +kernel

theorem wit_TrespassIsDiscarded :
    (([0x3C] : List Byte) ≠ [] ∧ base.HaltPending ∧ 0 < 512 ∧ 127 + ([0x3C] : List Byte).length ≤ 128 ∧
      ¬ ((127 : Nat) = 0 ∧ ([0x3C] : List Byte) = [0x3C]) ∧ (inHand .intake).xu.hand 0 = .intake ∧
      (inHand (.work false)).xu.hand 0 = .work false ∧ (inHand .intake).HaltPending) ∧
    (0x1FF + ([0] : List Byte).length ≤ 0x200 ∧ ¬ (0x1FF % 32 = 0 ∧ ([0] : List Byte) = [0])) ∧
    0xDFF + ([0] : List Byte).length ≤ 0xE00 ∧
    ((twoFrames .intake (.work true)).xu.hand 3 = .intake ∧ (twoFrames .intake (.work true)).xu.hand 4 = .work true ∧
      (twoFrames .host .intake).xu.hand 3 = .host ∧ (twoFrames .host .intake).xu.hand 4 = .intake ∧
      (twoFrames .host .intake).HaltPending ∧ Memory.wf (twoFrames .host .intake).xu.mem = true ∧
      127 + ([1] : List Byte).length = 128 ∧ ([0x3C, 0] : List Byte) ≠ [0x3C] ∧ ([0, 0] : List Byte) ≠ [0] ∧
      (base.modXu fun x => x.setHand 511 .intake).xu.hand 511 = .intake ∧ 0x1FF + ([1] : List Byte).length = 0x200) := by
  decide +kernel

/-- The STORE of frame 8 in work at carousel 1 in a state, with a placement visit waiting or in progress or none. -/
def storing (st : StoreState) (waits runs : Bool) : State :=
  let v : Visit := { visit .placement [.intake] with target := none }
  let s := (withStore base st Pau.reset).modXu fun x => x.setHand 8 (.work false)
  s.modCar 1 fun x => { x with visits := if waits then [v] else [], current := if runs then some v else none }

/-- The other carousels hold no store. -/
theorem storing_alone (st : StoreState) (waits runs : Bool) :
    ∀ c x, 1 ≤ c → c ≤ 12 → ((storing st waits runs).pauOf c).store = some x → x.frame = 8 → c = 1 := by
  have h : ∀ l : List Pau, (storing st waits runs).pau = l → l.tail = List.replicate 11 Pau.reset := by
    intro l e; subst e; cases waits <;> cases runs <;> rfl
  intro c x h1 h2 hx _
  have e := h _ rfl
  match c, h1 with
  | 1, _ => rfl
  | n + 2, _ =>
    have g : ((storing st waits runs).pau.tail)[n]? = (storing st waits runs).pau[n + 1]? := by simp
    rw [e, List.getElem?_replicate] at g
    simp only [State.pauOf, Nat.add_one_sub_one, List.getD_eq_getElem?_getD, ← g, if_pos (show n < 11 by omega)] at hx
    cases hx

/-- Carousel 1 is visiting. -/
def visiting1 : State := withCar (busyCar (visit .glance [.gauge 0]) Port.reset)
/-- Frame `f` is in work. -/
def inWorkAt (s : State) (f : Nat) : State := s.modXu fun x => x.setHand f (.work false)
/-- The order of slot 3 is in work in frame 9, with a mark in bay 0 of carousel 1; with a tyre in transit or none, and with so
many tyres in its lane. -/
def recalledOrder (st : OrderState) (transit count : Nat) : State :=
  let s := inWorkAt (withOrder (stocked base (some ⟨3, 1⟩)) st) 9
  let s := s.modOrder 3 fun o => { o with
    lane := if st = .laneWait then none else o.lane, lines := o.lines.map fun l => { l with inTransit := transit } }
  { s.setLane 1 { s.lane 1 with count := count } with
    odt := { (s.setLane 1 { s.lane 1 with count := count }).odt with waiting := if st = .laneWait then [3] else [] } }
/-- The audit docket of frame 8 in work at carousel 1: bay 0 is done in a GLANCE and bay 3 pending, or bay 0 is recounted. -/
def recalledAudit (recount : Bool) (v : AuditVisit) (asking : Bool) : State :=
  let a := if recount then { newAudit true 1 0 8 false [0] with visit := v, asking := asking, gripped := v = .inProgress 0 }
    else { newAudit false 1 0 8 false [0, 3] with
      visit := v, asking := asking, outcomes := [.done .massVar, .pending], faultSeen := true }
  let w : Visit := { visit (if recount then .recount else .glance) [] with audit := some 0, target := some 1, bays := [3] }
  (inWorkAt (visiting1.setAudit 0 (some a)) 8).modCar 1 fun x => { x with visits := if v = .waiting 1 then [w] else [] }
/-- The ENTER_MAINTENANCE of frame 8 is pending at carousel 1. -/
def recalledEnter : State := inWorkAt (visiting1.modCar 1 fun x => { x with service := some ⟨8, .enterMaintenance⟩ }) 8

theorem wit_RecallByHandState :
    (base.xu.hand 0 = .host ∧ base.HaltPending) ∧ (inHand .intake).xu.hand 0 = .intake ∧
    (inHand (.work true)).xu.hand 0 = .work true ∧
    ((inHand (.work false)).xu.hand 0 = .work false ∧
      (∀ p ∈ (inHand (.work false)).pau, p.store = none) ∧ (∀ o ∈ (inHand (.work false)).odt.orders, o = none) ∧
      (∀ a ∈ (inHand (.work false)).aud.records, a = none) ∧
      (∀ x ∈ (inHand (.work false)).cars, x.service ≠ some ⟨0, .enterMaintenance⟩) ∧
      (inHand (.work false)).cars.length = 12 ∧ (inHand (.work false)).pau.length = 12) ∧
    (∀ z ∈ [(StoreState.waitingArrival, false, false), (.placing, true, false), (.placing, false, false),
        (.placing, false, true), (.ending .done, false, false)],
      let s := storing z.1 z.2.1 z.2.2
      s.xu.hand 8 = .work false ∧ s.configured 1 = true ∧ s.cars.length = 12 ∧ s.pau.length = 12 ∧ s.cfg.count ≤ 12 ∧
      s.HaltPending ∧ ((s.pauOf 1).store.map fun x => (x.frame, x.state)) = some (8, z.1) ∧
      (s.car 1).placementRuns = z.2.2) ∧
    (∀ z ∈ [(OrderState.laneWait, 1, 0), (.picking, 1, 0), (.closing, 1, 0), (.closing, 0, 2), (.picking, 0, 0)],
      let s := recalledOrder z.1 z.2.1 z.2.2
      s.xu.hand 9 = .work false ∧ s.HaltPending ∧ s.cars.length = 12 ∧ s.pau.length = 12 ∧ s.cfg.count ≤ 12 ∧
      (∀ p ∈ s.pau, p.store = none) ∧ ((s.order 3).map fun o => (o.frame, o.state)) = some (9, z.1) ∧
      (∀ i < 64, i ≠ 3 → s.order i = none) ∧ (∀ x ∈ s.cars, x.visits = [] ∧ x.current = none) ∧
      (z.1 ≠ .laneWait → (s.order 3).bind (·.lane) = some 1 ∧ (s.lane 1).count = z.2.2 ∧ s.odt.waiting = []) ∧
      (s.order 3).map (·.lines.map fun l => (l.reserved, l.inTransit)) = some [(1, z.2.1)] ∧
      (s.stb.removeMarks (ofOrder 3 [])).2 = [⟨3, 1⟩]) ∧
    (∀ recount ∈ [true, false], ∀ z ∈ [(AuditVisit.inProgress 0, false), (.none, true), (.waiting 1, false)],
      let s := recalledAudit recount z.1 z.2
      s.xu.hand 8 = .work false ∧ s.HaltPending ∧ (∀ p ∈ s.pau, p.store = none) ∧
      (∀ o ∈ s.odt.orders, o = none) ∧ (∀ i < 8, i ≠ 0 → s.audit i = none) ∧
      ((s.audit 0).map fun a => (a.frame, a.visit, a.asking, a.reseek)) = some (8, z.1, z.2, false)) ∧
    (recalledEnter.xu.hand 8 = .work false ∧ recalledEnter.HaltPending ∧ (∀ p ∈ recalledEnter.pau, p.store = none) ∧
      (∀ o ∈ recalledEnter.odt.orders, o = none) ∧ (∀ a ∈ recalledEnter.aud.records, a = none) ∧
      recalledEnter.configured 1 = true ∧ (recalledEnter.car 1).service = some ⟨8, .enterMaintenance⟩ ∧
      (recalledEnter.car 2).service = none ∧ recalledEnter.cfg.count = 2) := by
  refine ⟨?_, ?_, ?_, ?_, ?_, ?_, ?_, ?_⟩ <;> decide +kernel

theorem wit_NoticeRecordsCapture :
    (0 < base.xu.notices.length ∧ (base.xu.notices.getD 0 Notice.reset).held = false ∧ base.HaltPending) ∧
    (0 < (base.xu.capture 0 1 []).notices.length ∧ ((base.xu.capture 0 1 []).notices.getD 0 Notice.reset).held = true) := by
  decide +kernel

theorem wit_FrameReturnWritesResult :
    Memory.wf base.xu.mem = true ∧ 511 < base.xu.hands.length ∧ (List.replicate 96 (1 : Byte)).length ≤ 96 := by
  decide +kernel

theorem wit_DispatcherRefusals :
    ((inHand .intake).Lawful ∧ (inHand .intake).xu.intake.head? = some 0 ∧
      (({ (inHand .intake) with xu := (inHand .intake).xu.writeFrame 0 4 [1] } : State).xu.checkOk 0 = false)) ∧
    ((inHand .intake).xu.checkOk 0 = true ∧ (inHand .intake).xu.kindOf 0 = none) ∧
    ((offer base 0x04 [1]).Lawful ∧ (offer base 0x04 [1]).Offers 0 .start ∧
      DocketKind.lengthOk .start ((offer base 0x04 [1]).xu.frameNat 0 6 1) = false) ∧
    ((offer base 0x04 []).Lawful ∧ (offer base 0x04 []).Offers 0 .start ∧
      DocketKind.lengthOk .start ((offer base 0x04 []).xu.frameNat 0 6 1) = true ∧
      (offer base 0x04 []).xu.permits .start = false) ∧
    ((offer base 0x30 [1, 4, 0]).Lawful ∧ (offer base 0x30 [1, 4, 0]).Offers 0 .service ∧
      3 < (offer base 0x30 [1, 4, 0]).xu.frameNat 0 9 1 ∧
      DocketKind.lengthOk .service ((offer base 0x30 [1, 4, 0]).xu.frameNat 0 6 1) = true ∧
      (offer base 0x30 [1, 4, 0]).xu.permits .service = true ∧
      firstBad (fieldChecks (offer base 0x30 [1, 4, 0]).xu 2 0 .service) = some 9) := by
  simp only [lawful_iff]; decide +kernel

/-! ### Hypotheses met: dockets -/

/-- A docket of each kind in frame 0. -/
def sConfigure : State := offer configured 0x01 configureBody
def sStart : State := offer (configured.modCar 2 fun x => { x with gateCause := true }) 0x04 []
def sArticle (pitch : Nat) : State := offer (stocked base none) 0x02 (articleBody pitch)
def sLoad : State := offer (stocked configured none) 0x03 loadBody
def sStore : State := offer (stocked base none) 0x10 storeBody
def sOrder (s : State) (article : Nat) : State := offer s 0x11 (orderBody article)
/-- Every lane bound. -/
def noLane (s : State) : State :=
  { s with odt := { s.odt with lanes := List.replicate 16 ⟨.filling, some 9, 9, 0⟩ } }
/-- Every order slot and every audit slot in use. -/
def fullOrders (s : State) : State := { s with odt := { s.odt with orders := List.replicate 64 (some (order3 .picking)) } }
def fullAudits (s : State) : State := { s with aud := { s.aud with records := List.replicate 8 (some audit) } }
def sClear (n : Nat) (x : Lane) : State := offer (base.setLane n x) 0x12 [byte n]
def sAudit (recount : Bool) (s : State) : State := if recount then offer s 0x21 [1, 4] else offer s 0x20 glanceBody
/-- Three audit visits wait beside it. -/
def audits3 : State := visiting1.modCar 1 fun x => { x with visits := List.replicate 3 (visit .glance []) }
def sCadence : State := offer base 0x22 ([1] ++ le32 60)
def sService (k : Nat) (x : Car) : State := offer (withCar x) 0x30 [1, byte k, 10]
def sidelinedCar : Car := { Car.reset false false with state := .sidelined, offset := some 0, score := 128 }
def maintenanceCar : Car := { sidelinedCar with state := .maintenance }
def sRead (s : State) (b : Nat) : State := offer s 0x40 [1, byte b]
def sQuery (s : State) : State := offer s 0x41 (le16 5 ++ [0, 0])
def sOrderQuery (s : State) : State := offer s 0x42 (le32 7)

theorem wit_ConfigureAndArticleSetRecords :
    (sConfigure.Lawful ∧ sConfigure.Accepts 0 .configure) ∧
    ((sArticle 300).Lawful ∧ (sArticle 300).Accepts 0 .article ∧ ((sArticle 300).stb.article 5).defined = true ∧
      ((sArticle 300).stb.article 5).pitch ≠ (sArticle 300).xu.frameNat 0 10 2 ∧ 0 < (sArticle 300).stb.onHandOf 5) ∧
    ((sArticle 200).Lawful ∧ (sArticle 200).Accepts 0 .article ∧
      ((sArticle 200).stb.article 5).pitch = (sArticle 200).xu.frameNat 0 10 2 ∧
      ((sArticle 200).stb.article 5).mass = (sArticle 200).xu.frameNat 0 12 2) := by
  simp only [lawful_iff]; decide +kernel

theorem wit_StartBeginsHoming :
    sStart.Lawful ∧ sStart.Accepts 0 .start ∧ (sStart.car 1).lockCause = false ∧ (sStart.car 2).lockCause = true ∧
    2 ≤ sStart.cfg.count ∧ sStart.cfg.count < 12 := by simp only [lawful_iff]; decide +kernel

theorem wit_StockLoadChecksInOrder : sLoad.Lawful ∧ sLoad.Accepts 0 .stockLoad := by
  simp only [lawful_iff]; decide +kernel

/-- The batch map of the stock is full, and holds no key of article 6. -/
def fullMap : Stb := { stock none with batch := ⟨lbl, 1, 0⟩ :: List.replicate 4095 ⟨⟨7, ⟨20, 10⟩⟩, 1, 0⟩ }
/-- A label of article 6. -/
def lbl6 : Label := ⟨6, ⟨20, 10⟩⟩

/-- Bay 0's stack replaced by none, which ends its key, and by one tyre of a new key. -/
theorem wit_StackReplacementSetsBay :
    ((stock none).shaped ∧ ((stock none).replace 1 0 []).map (fun x => x.2) = some (0, 1) ∧
      ([] : List Label).Nodup ∧ [lbl].Nodup ∧ (∀ k, k ∈ ([] : List Label) ↔ (stock none).hasKey k = false ∧ 0 < countKey k []) ∧
      (∀ k, k ∈ [lbl] ↔ (stock none).hasKey k = true ∧
        (0 < countKey k [] ∨ 0 < countKey k ((stock none).bay 1 0).stack) ∧
        ((stock none).batchOf k).onHand + countKey k [] - countKey k ((stock none).bay 1 0).stack = 0)) ∧
    ((stock none).replace 1 0 [⟨lbl, none, 0⟩, ⟨lbl6, none, 0⟩]).map (fun x => x.2) = some (1, 0) ∧
    (fullMap.shaped ∧ fullMap.replace 1 0 [⟨lbl, none, 0⟩, ⟨lbl6, none, 0⟩] = none ∧ 4096 < fullMap.batch.length + 1 - 0) := by
  have other : ∀ k : Label, k ≠ lbl → (stock none).hasKey k = false := by
    intro k h
    have e : (stock none).batch = [⟨lbl, 1, 0⟩] := by decide +kernel
    simp [Stb.hasKey, e, Ne.symm h]
  refine ⟨⟨by simp only [Stb.shaped]; decide +kernel, by decide +kernel, by decide, by decide, ?_, ?_⟩, by decide +kernel,
    by simp only [Stb.shaped]; decide +kernel, by decide +kernel, by decide +kernel⟩
  · intro k; simp [countKey]
  · intro k
    by_cases h : k = lbl
    · subst h; simp only [List.mem_singleton, true_iff]; decide +kernel
    · simp [h, other k h]

theorem wit_StoreTaken : sStore.Lawful ∧ sStore.Accepts 0 .store := by simp only [lawful_iff]; decide +kernel

/-- Every configured carousel is visiting, with a stock; carousel 2 has a lift visit waiting. -/
def allVisiting (t : Stb) : State :=
  let x := busyCar (visit .glance [.gauge 0]) Port.reset
  { base with
    stb := t, serial := 10
    cars := x :: { x with visits := [{ visit .lift [] with id := 9, demands := [⟨60, 1, 0, 0, 0⟩] }] } :: base.cars.drop 2 }
/-- The order of slot 3 waits for a lane. -/
def waits3 (s : State) : State :=
  { (withOrder s .laneWait) with odt := { (withOrder s .laneWait).odt with waiting := [3] } }

theorem wit_OrderAdmission :
    ((sOrder base 5).Lawful ∧ (sOrder base 5).Accepts 0 .order ∧
      (orderLines (sOrder base 5).xu 0).findIdx? (fun l => !((sOrder base 5).stb.article l.article).defined) = some 0) ∧
    ((sOrder (withOrder (stocked base none) .picking) 5).Lawful ∧
      (sOrder (withOrder (stocked base none) .picking) 5).Accepts 0 .order ∧
      (orderLines (sOrder (withOrder (stocked base none) .picking) 5).xu 0).findIdx?
        (fun l => !((sOrder (withOrder (stocked base none) .picking) 5).stb.article l.article).defined) = none ∧
      (sOrder (withOrder (stocked base none) .picking) 5).slotOf 7 = some 3) ∧
    ((offer (fullOrders (stocked base none)) 0x11 (le32 8 ++ (orderBody 5).drop 4)).Lawful ∧
      (offer (fullOrders (stocked base none)) 0x11 (le32 8 ++ (orderBody 5).drop 4)).Accepts 0 .order ∧
      (fullOrders (stocked base none)).slotOf 8 = none ∧ ∀ o ∈ (fullOrders base).odt.orders, o ≠ none) ∧
    ((sOrder (stocked base (some ⟨3, 1⟩)) 5).Lawful ∧ (sOrder (stocked base (some ⟨3, 1⟩)) 5).Accepts 0 .order ∧
      (sOrder (stocked base (some ⟨3, 1⟩)) 5).slotOf 7 = none ∧ (sOrder (stocked base (some ⟨3, 1⟩)) 5).order 0 = none ∧
      admissionMatch (stock (some ⟨3, 1⟩)) [1, 2] 0 false (orderLines (sOrder (stocked base (some ⟨3, 1⟩)) 5).xu 0) = .short 1 0) ∧
    ((sOrder (noLane (stocked base none)) 5).Lawful ∧ (sOrder (noLane (stocked base none)) 5).Accepts 0 .order ∧
      (sOrder (noLane (stocked base none)) 5).slotOf 7 = none ∧ (sOrder (noLane (stocked base none)) 5).freeLane = none ∧
      admissionMatch (stock none) [1, 2] 0 false (orderLines (sOrder (noLane (stocked base none)) 5).xu 0) =
        .filled ((stock none).mark (.bay 1 0 0) ⟨0, 1⟩) [[⟨1, 0, 0, 1069⟩]]) ∧
    ((sOrder (allVisiting (stock none)) 5).Lawful ∧ (sOrder (allVisiting (stock none)) 5).Accepts 0 .order ∧
      (sOrder (allVisiting (stock none)) 5).slotOf 7 = none ∧ (sOrder (allVisiting (stock none)) 5).freeLane = some 1 ∧
      (sOrder (allVisiting (stock none)) 5).odt.waiting = [] ∧
      (∀ x ∈ (sOrder (allVisiting (stock none)) 5).cars, x.state ≠ .idle ∧ x.state ≠ .parked) ∧
      admissionMatch (stock none) [1, 2] 0 false (orderLines (sOrder (allVisiting (stock none)) 5).xu 0) =
        .filled ((stock none).mark (.bay 1 0 0) ⟨0, 1⟩) [[⟨1, 0, 0, 1069⟩]]) := by
  simp only [lawful_iff]; decide +kernel

/-- Marks of the order of slot 3 in a bay of carousel 1, and on the rack and in the gripper of carousel 2, each marked
deeper in a bay than it stands. -/
def spreadMarks : Stb :=
  ((stock none).setStack 1 0 [⟨lbl, some ⟨3, 1⟩, 3⟩]).setCar 2 { (stock none).car 2 with
    rack := [⟨⟨lbl, some ⟨3, 1⟩, 2⟩, 4⟩], gripper := some ⟨⟨lbl, some ⟨3, 1⟩, 1⟩, .bay 9⟩ }

theorem wit_BindingFillsLane :
    (base.odt.waiting = [] ∧ (noLane base).freeLane = none) ∧
    ((waits3 (allVisiting spreadMarks)).Lawful ∧ (waits3 (allVisiting spreadMarks)).odt.waiting = [3] ∧
      (waits3 (allVisiting spreadMarks)).freeLane = some 2 ∧
      (waits3 (allVisiting spreadMarks)).order 3 = some (order3 .laneWait) ∧
      (Spot.bay 1 0 0, ⟨3, 1⟩) ∈ spreadMarks.marked ∧ (Spot.rack 2 0, ⟨3, 1⟩) ∈ spreadMarks.marked ∧
      (Spot.gripper 2, ⟨3, 1⟩) ∈ spreadMarks.marked ∧
      (spreadMarks.marked.filter fun m => m.2.slot == 3).length = 3 ∧
      (spreadMarks.bay 1 0).stack[0]? = some ⟨lbl, some ⟨3, 1⟩, 3⟩ ∧
      (spreadMarks.car 2).rack[0]? = some ⟨⟨lbl, some ⟨3, 1⟩, 2⟩, 4⟩ ∧
      (spreadMarks.car 2).gripper = some ⟨⟨lbl, some ⟨3, 1⟩, 1⟩, .bay 9⟩ ∧
      ∀ c ∈ [1, 2], (waits3 (allVisiting spreadMarks)).inService c = true ∧
        ∀ n ∈ 0 :: ((waits3 (allVisiting spreadMarks)).car c).visits.map (fun v => v.demands.length), n + 3 ≤ 40) := by
  simp only [lawful_iff]; decide +kernel

theorem wit_SetRulesChooseWindows :
    cands.Pairwise (fun x y => x.week ≤ y.week) ∧
    SetRule.any.choose cands 2 = some (cands.take 2) ∧ SetRule.oneBatch.choose cands 2 = some (cands.drop 1) ∧
    (SetRule.closeBatch 1).choose cands 3 = some cands ∧ SetRule.any.choose cands 4 = none ∧
    SetRule.oneBatch.choose cands 3 = none ∧ (SetRule.closeBatch 1).choose cands 4 = none := by decide +kernel

/-- Two carousels with candidates of one article, of two weeks, one of them in a SUSPECT bay. -/
def searched : State :=
  { base with stb := ((stock none).setStack 2 3 [⟨⟨5, ⟨20, 9⟩⟩, none, 0⟩, ⟨lbl, some ⟨3, 1⟩, 0⟩]).suspect 1 0 .identity }

/-- The search finds the earlier week for ANY, and none within the held set's week for ONE_BATCH. -/
theorem wit_CandidatesAndSearch :
    searched.seek 3 1 ⟨5, 2, .any, 1, 0, 0, 1, 0, []⟩ none (fun _ => true) = some ⟨2, 3, 0, 1068⟩ ∧
    searched.seek 3 1 ⟨5, 2, .oneBatch, 1, 0, 0, 1, 0, []⟩ none (fun _ => true) = none ∧
    searched.heldSet 3 1 [7] none = [1069, 7] ∧ searched.heldSet 3 1 [7] (some (.bay 2 3 1)) = [7] := by decide +kernel

/-- A line in full, a line in part, and a line short, beside a line that takes the only candidate. -/
theorem wit_AdmissionMatchByLines :
    (∃ u, admissionMatch (stock none) [1, 2] 0 true [⟨5, 1, .any, 0, 0, 0, 0, 0, []⟩, ⟨5, 2, .any, 0, 0, 0, 0, 0, []⟩] =
      .filled u [[⟨1, 0, 0, 1069⟩], []]) ∧
    admissionMatch (stock none) [1, 2] 0 false [⟨5, 1, .any, 0, 0, 0, 0, 0, []⟩, ⟨5, 2, .oneBatch, 0, 0, 0, 0, 0, []⟩] =
      .short 2 0 ∧
    admissionMatch (stock (some ⟨3, 1⟩)) [1, 2] 0 true [⟨5, 1, .any, 0, 0, 0, 0, 0, []⟩] = .short 1 0 ∧
    (searched.stb.shaped ∧ (searched.stb.bay 2 3).stack[1]? = some ⟨lbl, some ⟨3, 1⟩, 0⟩ ∧
      ((searched.stb.mark (.bay 2 3 1) ⟨4, 2⟩).bay 2 3).stack[1]? = some ⟨lbl, some ⟨4, 2⟩, 1⟩) := by
  exact ⟨⟨_, rfl⟩, by decide +kernel, by decide +kernel, by simp only [Stb.shaped]; decide +kernel, by decide +kernel,
    by decide +kernel⟩

/-- The chute is full, and a spur asks for a merge. -/
def chuteFull : State := offer (atSpur.modBlc fun b => { b with chute := 24, chuteCause := true }) 0x12 [0]

theorem wit_LaneClearEmptiesLane :
    ((offer base 0x12 [0]).Lawful ∧ (offer base 0x12 [0]).Accepts 0 .laneClear ∧ (offer base 0x12 [0]).blc.running = true) ∧
    (chuteFull.Lawful ∧ chuteFull.Accepts 0 .laneClear ∧ chuteFull.blc.running = false ∧
      ({ chuteFull.blc with chute := 0, chuteCause := false } : Blc).running = true) ∧
    ((sClear 16 Lane.reset).Lawful ∧ (sClear 16 Lane.reset).Accepts 0 .laneClear ∧
      ((sClear 16 Lane.reset).lane 16).state = .free) ∧
    ((sClear 1 ⟨.filling, some 3, 7, 0⟩).Accepts 0 .laneClear ∧
      ((sClear 1 ⟨.filling, some 3, 7, 0⟩).lane 1).state = .filling) ∧
    ((sClear 1 ⟨.complete, none, 7, 4⟩).Lawful ∧ (sClear 1 ⟨.complete, none, 7, 4⟩).Accepts 0 .laneClear ∧
      ((sClear 1 ⟨.complete, none, 7, 4⟩).lane 1).state = .complete ∧
      (sClear 1 ⟨.complete, none, 7, 4⟩).odt.waiting = []) ∧
    (let s := offer ((waits3 (allVisiting spreadMarks)).setLane 4 ⟨.disbanded, none, 7, 4⟩) 0x12 [4]
     s.Lawful ∧ s.Accepts 0 .laneClear ∧ (s.lane 4).state = .disbanded ∧ s.odt.waiting = [3] ∧
     ∀ x ∈ s.cars, x.state ≠ .idle ∧ x.state ≠ .parked) := by simp only [lawful_iff]; decide +kernel

/-- The record an audit docket of these tests makes. -/
def auditOf (recount : Bool) : AuditRec := newAudit recount 1 0 0 false [if recount then 4 else 2]

theorem wit_AuditTaken : ∀ recount : Bool,
    ((sAudit recount (fullAudits base)).Lawful ∧
      (sAudit recount (fullAudits base)).Accepts 0 (if recount then .recount else .glance) ∧
      ∀ x ∈ (fullAudits base).aud.records, x ≠ none) ∧
    ((sAudit recount (withCar sidelinedCar)).Lawful ∧
      (sAudit recount (withCar sidelinedCar)).Accepts 0 (if recount then .recount else .glance) ∧
      (sAudit recount (withCar sidelinedCar)).audit 0 = none ∧ (withCar sidelinedCar).inService 1 = false) ∧
    ((sAudit recount audits3).Lawful ∧ (sAudit recount audits3).Accepts 0 (if recount then .recount else .glance) ∧
      audits3.inService 1 = true ∧ (audits3.car 1).auditsWaiting = 3) ∧
    ((sAudit recount visiting1).Lawful ∧ (sAudit recount visiting1).Accepts 0 (if recount then .recount else .glance) ∧
      visiting1.inService 1 = true ∧ (visiting1.car 1).auditsWaiting < 3 ∧ (visiting1.car 1).state = .visiting ∧
      (auditOf recount).nextVisit = some (if recount then (2, [4, 5]) else (1, [2]))) := by
  simp only [lawful_iff]; decide +kernel

theorem wit_ServiceRefusedOrTaken :
    ((sService 0 { restCar with service := some ⟨8, .enterMaintenance⟩ }).Lawful ∧
      (sService 0 { restCar with service := some ⟨8, .enterMaintenance⟩ }).Accepts 0 .service ∧
      (sService 0 { restCar with service := some ⟨8, .enterMaintenance⟩ }).xu.frameNat 0 9 1 =
        ServiceKind.enterMaintenance.code) ∧
    ((sService 0 maintenanceCar).Lawful ∧ (sService 0 maintenanceCar).Accepts 0 .service ∧
      (sService 0 maintenanceCar).xu.frameNat 0 9 1 = ServiceKind.enterMaintenance.code ∧
      ((sService 0 maintenanceCar).car 1).service = none) ∧
    ((sService 1 restCar).Lawful ∧ (sService 1 restCar).Accepts 0 .service ∧ (sService 2 restCar).Lawful ∧
      (sService 2 restCar).Accepts 0 .service ∧ (sService 3 restCar).Lawful ∧ (sService 3 restCar).Accepts 0 .service) ∧
    ((sService 0 (busyCar (visit .glance [.gauge 0]) Port.reset)).Lawful ∧
      (sService 0 (busyCar (visit .glance [.gauge 0]) Port.reset)).Accepts 0 .service) ∧
    ((sService 0 restCar).Lawful ∧ (sService 0 restCar).Accepts 0 .service ∧
      ((sService 0 restCar).stb.removeMarks (ofCarousel 1)).2 = [] ∧ ((sService 0 restCar).pauOf 1).store = none ∧
      ∀ a ∈ (sService 0 restCar).aud.records, a = none) ∧
    ((sService 0 sidelinedCar).Lawful ∧ (sService 0 sidelinedCar).Accepts 0 .service) ∧
    ((sService 1 maintenanceCar).Lawful ∧ (sService 1 maintenanceCar).Accepts 0 .service ∧
      (sService 1 maintenanceCar).xu.frameNat 0 9 1 = 1 ∧ ((sService 1 maintenanceCar).car 1).service = none) := by
  simp only [lawful_iff]; decide +kernel

theorem wit_LeaveAndRestoreBegin :
    ((sService 2 maintenanceCar).Lawful ∧ (sService 2 maintenanceCar).Accepts 0 .service ∧
      (sService 2 maintenanceCar).xu.frameNat 0 9 1 = 2 ∧ maintenanceCar.lockCause = false) ∧
    ((sService 2 { maintenanceCar with gateCause := true }).Lawful ∧
      (sService 2 { maintenanceCar with gateCause := true }).Accepts 0 .service) ∧
    ((sService 3 sidelinedCar).Lawful ∧ (sService 3 sidelinedCar).Accepts 0 .service ∧
      (sService 3 sidelinedCar).xu.frameNat 0 9 1 = 3 ∧ (sService 3 sidelinedCar).fresh.holding 1 = false) ∧
    ((sService 3 { sidelinedCar with gateCause := true }).Lawful ∧
      (sService 3 { sidelinedCar with gateCause := true }).Accepts 0 .service) ∧
    ((gripping (stocked (sService 3 sidelinedCar) none)).Lawful ∧
      (gripping (stocked (sService 3 sidelinedCar) none)).Accepts 0 .service ∧
      ((gripping (stocked (sService 3 sidelinedCar) none)).stb.car 1).gripper = some ⟨⟨lbl, none, 0⟩, .bay 0⟩ ∧
      sidelinedCar.offset = some (carrierOf 0) ∧ sidelinedCar.visits = []) := by
  simp only [lawful_iff]; decide +kernel

/-- The gripper of carousel 1 holds a tyre of an origin. -/
def holds (o : Origin) : State :=
  base.modStb fun t => t.setCar 1 { t.car 1 with gripper := some ⟨⟨lbl, none, 0⟩, o⟩ }

theorem wit_QueriesReply :
    (((sRead (stocked base none) 39).Lawful ∧ (sRead (stocked base none) 39).Accepts 0 .bayRead ∧
      (sRead (stocked base none) 0).Accepts 0 .bayRead) ∧
    ((sRead base 40).Lawful ∧ (sRead base 40).Accepts 0 .bayRead) ∧
    ((sRead base 41).Lawful ∧ (sRead base 41).Accepts 0 .bayRead ∧ ((sRead base 41).stb.car 1).gripper = none) ∧
    ((sRead (holds (.bay 3)) 41).Lawful ∧ (sRead (holds (.bay 3)) 41).Accepts 0 .bayRead ∧
      ((sRead (holds (.bay 3)) 41).stb.car 1).gripper = some ⟨⟨lbl, none, 0⟩, .bay 3⟩) ∧
    ((sRead (holds (.rack 3)) 41).Lawful ∧ (sRead (holds (.rack 3)) 41).Accepts 0 .bayRead) ∧
    ((sRead (holds .infeed) 41).Lawful ∧ (sRead (holds .infeed) 41).Accepts 0 .bayRead)) ∧
    ((sQuery base).Lawful ∧ (sQuery base).Accepts 0 .stockQuery ∧ ((sQuery base).stb.article 5).defined = false) ∧
    ((sQuery (stocked base none)).Lawful ∧ (sQuery (stocked base none)).Accepts 0 .stockQuery ∧
      ((sQuery (stocked base none)).stb.article 5).defined = true) ∧
    ((sOrderQuery base).Lawful ∧ (sOrderQuery base).Accepts 0 .orderQuery ∧ (sOrderQuery base).slotOf 7 = none) ∧
    ((sOrderQuery (withOrder base .picking)).Lawful ∧ (sOrderQuery (withOrder base .picking)).Accepts 0 .orderQuery ∧
      (sOrderQuery (withOrder base .picking)).slotOf 7 = some 3 ∧
      (sOrderQuery (withOrder base .picking)).order 3 = some (order3 .picking)) := by
  simp only [lawful_iff]
  exact ⟨by decide +kernel, by decide +kernel⟩

/-! ### Hypotheses met: motion, locks and timers -/

theorem wit_StepsDirectionAndMove : 1 - 1 < base.cars.length ∧ (base.car 1).offset = some 0 ∧ 13 ≠ 0 ∧ 19 < 20 := by
  decide +kernel

/-- Carousel 1 in a home pass. -/
def inPass (st : CarState) (seek : Bool) (n : Nat) (o : Option Nat) : Car :=
  { restCar with
    state := st, idle := none, pass := some ⟨true, seek, n⟩, drive := some ⟨.forward, .creep⟩, brakeHeld := false
    offset := o, watchdog := some ⟨0, 12450⟩ }
/-- Carousel 1 in a move to a carrier. -/
def moving (target : Nat) (gated : Option Nat) : State :=
  (driving { busyCar (visit .lift [lift0]) Port.reset with
    moveTarget := some target, offset := some 19, sub := some .moving, watchdog := some ⟨0, 1000⟩, gateStop := gated })

/-- Carousel 1 at the end of a brake release, with visits of three kinds waiting and one provisional. -/
def releasing (provisional : Nat) : State :=
  let glance (id k : Nat) : Visit := { visit .glance [] with id := id, target := some k, bays := [2 * k, 2 * k + 1] }
  (withCar { restCar with
    state := .parked, idle := none, brake := some 0, provisional := some provisional
    visits := [{ visit .placement [.intake] with id := 1, target := none }, glance 2 0, glance 3 14,
      { visit .recount [] with id := 4, audit := some 0, bays := [1, 0] }] }).setAudit 0
        (some { newAudit true 1 0 8 false [1] with visit := .waiting 0 })

theorem wit_SelectionChoosesAndStarts :
    ∀ id ∈ [1, 2, 3, 4, 5],
      (releasing id).Lawful ∧ (releasing id).skip = [] ∧ (releasing id).configured 1 = true ∧
      ((releasing id).car 1).offset = some 0 ∧ ((releasing id).car 1).state = .parked ∧
      ((releasing id).car 1).brake ≠ none ∧ ((releasing id).car 1).lockCause = false ∧
      ((((releasing id).car 1).visits.find? fun w => some w.id == ((releasing id).car 1).provisional).map (·.id)) =
        (if id = 5 then none else some id) ∧
      ((releasing id).choice 1).map (·.id) = some 1 ∧ (releasing id).xu.mode = .running ∧
      (∀ b ∈ [0, 1, 28, 29], ((releasing id).stb.bay 1 b).held = none ∧ ((releasing id).stb.bay 1 b).stack = []) ∧
      ((releasing id).audit 0).map (fun a => (a.recount, a.gripped, a.recallTaken)) = some (true, false, false) := by
  simp only [lawful_iff]; decide +kernel

/-- Carousel 1 at the last pulse of a recovery pass, with a score and a pass count. -/
def lastRecovery (score passes : Nat) : State :=
  withCar { inPass .recovering false 19 (some 6) with
    service := some ⟨8, .restore⟩, stage := some .recovery, score := score, passCount := passes }

theorem wit_IndexPulseSteps :
    (base.Lawful ∧ base.configured 1 = true ∧ (base.car 1).drive = none) ∧
    ((withCar (inPass .homing true 18 none)).Lawful ∧
      ((withCar (inPass .homing true 18 none)).car 1).pass = some ⟨true, true, 18⟩) ∧
    ((withCar (inPass .homing false 18 (some 18))).Lawful ∧ 18 < 20 ∧ (18 + 1) % 20 ≠ 0) ∧
    ((withCar (inPass .homing false 18 (some 19))).Lawful ∧ (19 + 1) % 20 = 0) ∧
    ((moving 5 none).Lawful ∧ ((moving 5 none).car 1).moveTarget ≠ some 0 ∧ ((moving 5 none).car 1).gateStop = none ∧
      ((moving 5 none).car 1).pass = none) ∧
    ((moving 5 (some 0)).Lawful ∧ ((moving 5 (some 0)).car 1).gateStop ≠ none) ∧
    ((stocked (moving 0 none) (some ⟨3, 1⟩)).Lawful ∧ ((moving 0 none).car 1).moveTarget = some 0 ∧
      ((moving 0 none).car 1).current = some (visit .lift [lift0]) ∧ (visit .lift [lift0]).actions.head? = some lift0 ∧
      carrierOf 0 = 0 ∧ (((stock (some ⟨3, 1⟩)).bay 1 0).stack.head?).map (·.mark) = some (some ⟨3, 1⟩)) ∧
    (∀ z ∈ [(16, 7), (17, 6), (17, 7)], (lastRecovery z.1 z.2).Lawful ∧
      ((lastRecovery z.1 z.2).car 1).drive = some ⟨.forward, .creep⟩ ∧ ((lastRecovery z.1 z.2).car 1).offset = some 6 ∧
      ((lastRecovery z.1 z.2).car 1).pass = some ⟨true, false, 19⟩ ∧ false = decide ((6 + 1) % 20 = 0) ∧
      ((lastRecovery z.1 z.2).car 1).lockCause = false ∧ ((lastRecovery z.1 z.2).car 1).visits = [] ∧
      ((lastRecovery z.1 z.2).car 1).service = some ⟨8, .restore⟩) := by
  simp only [lawful_iff]; decide +kernel

theorem wit_LastHomingEndsStart :
    lastPulse.Lawful ∧ lastPulse.configured 1 = true ∧ (lastPulse.car 1).state = .homing ∧
    (lastPulse.car 1).drive = some ⟨.forward, .creep⟩ ∧ (lastPulse.car 1).pass = some ⟨true, false, 19⟩ ∧
    (lastPulse.car 1).offset = some 19 ∧ (19 + 1) % 20 = 0 ∧ (lastPulse.car 1).service = none ∧
    (lastPulse.car 1).visits = [] ∧ lastPulse.xu.start = some ⟨8, [1], List.replicate 12 0⟩ ∧
    ∀ l ∈ lastPulse.blc.spurs, l = [] := by simp only [lawful_iff]; decide +kernel

/-- Carousel 1 LOCKED by its gate. -/
def lockedCar (st : CarState) : Car :=
  { restCar with state := .locked, interrupted := some st, gateCause := true, powered := false, idle := none }

theorem wit_GateOpenLocks :
    ((withCar (lockedCar .idle)).Lawful ∧ (lockedCar .idle).lockCause = true) ∧
    (base.Lawful ∧ (base.car 1).lockCause = false ∧ (base.car 1).current = none ∧ (base.car 1).state = .idle) ∧
    ((moving 5 none).Lawful ∧ ((moving 5 none).car 1).lockCause = false ∧ ((moving 5 none).car 1).state = .visiting ∧
      ((moving 5 none).car 1).drive = some ⟨.forward, .full⟩) ∧
    (visiting1.Lawful ∧ (visiting1.car 1).state = .visiting ∧ (visiting1.car 1).drive = none ∧
      (visiting1.car 1).current = some (visit .glance [.gauge 0])) ∧
    ((withCar (inPass .homing true 0 none)).Lawful ∧ (inPass .homing true 0 none).lockCause = false) ∧
    (base.Lawful ∧ (base.car 12).state = .offline ∧ (base.car 12).stage ≠ some .tidy) := by
  simp only [lawful_iff]; decide +kernel

/-- Carousel 1 LOCKED in a visit with its GRIP_STACK withdrawn. -/
def lockedGrip : Car :=
  { busyCar (visit .lift [lift0]) { Port.reset with held := some ⟨.gripStack 0, true⟩, phase := .gripping } with
    state := .locked, interrupted := some .visiting, gateCause := true, powered := false }

/-- Carousel 1 LOCKED in a visit, with a command kept back. -/
def lockedHold (h : HeldCmd) : Car :=
  { lockedGrip with port := { Port.reset with held := some h, phase := .setting .normal } }
/-- Carousel 1 LOCKED in a move to carrier 5, and SIDELINED with a RESTORE that waits. -/
def lockedMove : Car := { lockedGrip with port := Port.reset, sub := some .moving, moveTarget := some 5, gateStop := some 10 }
def waitingRestore : Car := { sidelinedCar with gateCause := true, stage := some .waiting, service := some ⟨8, .restore⟩ }

/-- Carousel 1 LOCKED in a visit with a port and a stock. -/
def lockedAt (v : Visit) (p : Port) (t : Stb) : State := { withCar { lockedGrip with current := some v, port := p } with stb := t }
/-- A command withdrawn at the lock. -/
def withdrawn (cmd : GripCmd) (ph : Phase) : Port := { Port.reset with held := some ⟨cmd, true⟩, phase := ph }
/-- The tyre of bay 0 is in the gripper on its way to the rack, and bay 1 has a marked one. -/
def shiftStock : Stb := ((stock none).setStack 1 1 [⟨lbl, some ⟨3, 1⟩, 0⟩]).takeBay 1 0
def shiftVisit : Visit := visit .lift [.shift 0 .rack, .lift ⟨3, 1⟩ 1 0 false]

theorem wit_GateCloseUnlocks :
    (base.Lawful ∧ (base.car 1).gateCause = false) ∧
    ((withCar { lockedCar .idle with estopCause := true }).Lawful ∧
      ((withCar { lockedCar .idle with estopCause := true }).car 1).estopCause = true) ∧
    ((withCar { sidelinedCar with gateCause := true }).Lawful ∧ sidelinedCar.stage = none ∧
      sidelinedCar.estopCause = false) ∧
    ((withCar (lockedCar .idle)).Lawful ∧ (lockedCar .idle).interrupted = some .idle ∧ (lockedCar .idle).visits = []) ∧
    ((withCar { lockedCar .parked with brake := some 5 }).Lawful ∧ (lockedCar .parked).interrupted = some .parked) ∧
    ((withCar (lockedCar .parked)).Lawful ∧ (lockedCar .parked).brake = none) ∧
    ((withCar { restCar with state := .homing, gateCause := true }).Lawful) ∧
    ((withCar lockedGrip).Lawful ∧ lockedGrip.sub ≠ some .moving ∧
      lockedGrip.port.held = some ⟨.gripStack 0, true⟩) ∧
    ((withCar (lockedHold ⟨.setDown .rack, true⟩)).Lawful ∧ (withCar (lockedHold ⟨.setDown .spur, false⟩)).Lawful ∧
      (lockedHold ⟨.setDown .spur, false⟩).action = some lift0) ∧
    ((lockedAt (visit .lift [lift0]) (withdrawn (.gripStack 0) .gripping) (stock (some ⟨3, 1⟩))).Lawful ∧
      takesFrom 0 lift0 = true ∧ ((stock (some ⟨3, 1⟩)).car 1).gripper = none ∧
      ((stock (some ⟨3, 1⟩)).bay 1 0).stack.isEmpty = false) ∧
    ((lockedAt shiftVisit (withdrawn (.setDown .rack) (.setting .normal)) shiftStock).Lawful ∧
      (((shiftStock.setDownRack 1).bay 1 1).stack.head?).bind (·.mark) = some ⟨3, 1⟩ ∧ carrierOf 1 = 0) ∧
    (lockedAt (visit .glance [.gauge 0]) { Port.reset with phase := .gauging } (stock none)).Lawful ∧
    ((withCar lockedMove).Lawful ∧ lockedMove.offset = some 0) ∧
    ((withCar waitingRestore).Lawful ∧ ((withCar waitingRestore).stb.car 1).gripper = none ∧
      ((withCar waitingRestore).stb.car 1).rack = [] ∧ waitingRestore.estopCause = false) := by
  simp only [lawful_iff]; decide +kernel

/-- Every gate open. -/
def gatesOpen : State := { base with cars := base.cars.map fun x => { x with gateCause := true, estopCause := true } }

theorem wit_EstopLocksAndReleases :
    ((moving 5 none).Lawful ∧ (base.car 1).lockCause = false ∧ (base.car 1).state = .idle ∧
      (base.car 12).state = .offline) ∧
    ((withCar (lockedCar .idle)).Lawful ∧ (lockedCar .idle).lockCause = true) ∧
    (withCar (inPass .recovering true 0 none)).Lawful ∧
    (gatesOpen.Lawful ∧ (List.replicate 12 true).length = 12 ∧ gatesOpen.fresh.requesters = [] ∧
      ∀ x ∈ gatesOpen.cars, x.gateCause = true) ∧
    (State.reset.Lawful ∧ State.reset.fresh.requesters = [] ∧ ∀ x ∈ State.reset.cars, x.state = .offline ∧ x.stage = none) := by
  simp only [lawful_iff]; decide +kernel

/-- Carousel 1 PARKED in its brake release. -/
def brakeCar : Car := { restCar with state := .parked, idle := none, brake := some 0, brakeHeld := false, provisional := some 4 }

theorem wit_TimersAct :
    (base.Lawful ∧ base.configured 1 = true ∧ (base.car 1).gateStop = none ∧ (base.car 1).state = .idle ∧
      (base.car 1).idle ≠ none ∧ (base.car 1).lockCause = false ∧ (base.car 1).brake = none) ∧
    ((moving 5 (some 400)).Lawful ∧ ((moving 5 (some 400)).car 1).gateStop ≠ none ∧
      ((moving 5 (some 400)).car 1).idle = none) ∧
    ((withCar brakeCar).Lawful ∧ brakeCar.state = .parked ∧ brakeCar.brake ≠ none ∧ brakeCar.lockCause = false ∧
      brakeCar.visits = []) := by simp only [lawful_iff]; decide +kernel

/-! ### Hypotheses met: work at the port -/

/-- Carousel 1 grips the tyre of bay 0. -/
def gripState : State := working lift0 (portWith (.gripStack 0) .gripping)

/-- Carousel 1 has gripped in an action: the rack holds two tyres, or the command was another. -/
def gotState (a : Action) (cmd : GripCmd) : State :=
  { base with stb := (stock none).setCar 1 { (stock none).car 1 with
      rack := [⟨⟨lbl, none, 0⟩, 0⟩, ⟨⟨lbl, none, 0⟩, 4⟩] } }.setCar 1
    (busyCar (visit .tidy [a]) (portWith cmd .gripping))

theorem wit_GotTakesTopEntry :
    gripState.Lawful ∧ gripState.configured 1 = true ∧ (gripState.car 1).current = some (visit .lift [lift0]) ∧
    takesFrom 0 lift0 = true ∧ takesFrom 0 (.shift 0 .rack) = true ∧
    (gripState.car 1).port.cmd = some (.gripStack 0) ∧ (gripState.stb.car 1).gripper = none ∧
    (gripState.stb.bay 1 0).stack = [⟨lbl, some ⟨3, 1⟩, 0⟩] ∧
    (∀ z ∈ [(Action.back 0, GripCmd.gripRack), (.intake, .gripInfeed), (.recountTake 0, .gripStack 0),
        (.recountReturn 0, .gripStack 1)],
      (gotState z.1 z.2).Lawful ∧ ((gotState z.1 z.2).car 1).current = some (visit .tidy [z.1]) ∧
      ((gotState z.1 z.2).car 1).port.cmd = some z.2 ∧ ((gotState z.1 z.2).car 1).lockCause = false ∧
      ((gotState z.1 z.2).stb.car 1).gripper = none ∧
      ((gotState z.1 z.2).stb.car 1).rack = [⟨⟨lbl, none, 0⟩, 0⟩, ⟨⟨lbl, none, 0⟩, 4⟩]) := by
  simp only [lawful_iff]; decide +kernel

/-- A recount of bay 0 in pass 1, one tyre moved. -/
def recountVisit : Visit := { visit .recount [.recountTake 0] with audit := some 0, bays := [0, 1] }
def recounting : State :=
  (withCar (busyCar recountVisit (portWith (.gripStack 0) .gripping))).setAudit 0 (some audit)

/-- A recount of bay 0 of carousel 1 whose pass 1 found tyres, with two orders' marks in the record (8.5). -/
def recounted (found : List Label) : State :=
  let t := (stock none).setStack 1 0 [⟨lbl, some ⟨14, 1⟩, 0⟩, ⟨lbl, some ⟨2, 2⟩, 0⟩, ⟨lbl6, none, 0⟩, ⟨lbl, none, 0⟩]
  let t := { t with batch := [⟨lbl, 3, 2⟩, ⟨lbl6, 1, 0⟩] }
  let s := { base with stb := t }.setAudit 0 (some { audit with found := found, moved := 0, pass1Done := true, phase := .pass2 })
  (s.setOrder 2 (some { order3 .picking with seq := 610 })).setOrder 14 (some { order3 .picking with seq := 655 })

theorem wit_EmptyEndsPassOne :
    recounting.Lawful ∧ recounting.configured 1 = true ∧ (recounting.car 1).lockCause = false ∧
    (recounting.car 1).offset = some (carrierOf 0) ∧ (recounting.car 1).current = some recountVisit ∧
    recountVisit.actions = [.recountTake 0] ∧ recountVisit.audit = some 0 ∧ recounting.audit 0 = some audit ∧
    audit.moved = 0 + 1 ∧ (recounting.car 1).port.cmd = some (.gripStack 0) ∧
    (let s := recounted [lbl6, lbl, lbl6]
     ((s.audit 0).map fun a => (a.carousel, a.bays)) = some (1, [0]) ∧
     ((s.stb.replace 1 0 [⟨lbl6, none, 0⟩, ⟨lbl, some ⟨2, 2⟩, 0⟩, ⟨lbl6, none, 0⟩]).map fun x => x.2) = some (0, 0)) ∧
    ({ (recounted []).stb with batch := List.replicate 4096 ⟨⟨7, ⟨20, 10⟩⟩, 1, 0⟩ } : Stb).replace 1 0 [⟨lbl, none, 0⟩] =
      none := by simp only [lawful_iff]; decide +kernel

/-- The evaluation of 8.5: of two marks of a key with one tyre found, the earlier order's stays and the other is
withdrawn. -/
theorem test_recountKeepsEarlierMark :
    (let s := recounted [lbl6, lbl, lbl6]
     let u := s.evaluate 0 ((s.audit 0).getD audit)
     ((u.stb.bay 1 0).stack.map fun e => (e.label, e.mark), u.rse.map fun b => b.items.map (·.mark))) =
      ([(lbl6, none), (lbl, some ⟨2, 2⟩), (lbl6, none)], [[⟨14, 1⟩]]) := by decide +kernel

/-- Carousel 1 has set a tyre down, and another action follows. -/
def settingDown (k : VisitKind) (a b : Action) (d : Dest) (ph : Phase) : State :=
  gripping ({ withOrder base .picking with stb := (stock (some ⟨3, 1⟩)).setStack 1 1 [⟨lbl, some ⟨3, 1⟩, 0⟩] }.setCar 1
    (busyCar (visit k [a, b]) (portWith (.setDown d) ph)))
/-- Carousel 1 has set a tyre of a recount or of a recount return down. -/
def recountDown (a : Action) (d : Dest) (ph : Phase) (record : Option Nat) : State :=
  (withCar { busyCar { recountVisit with actions := [a, .recountReturn 0], audit := record } (portWith (.setDown d) ph) with
    recountReturn := some ⟨0, 2⟩ }).setAudit 0 (some audit)

theorem wit_DoneEndsAction :
    (let s := settingDown .lift lift0 (.lift ⟨3, 1⟩ 1 0 false) .spur (.setting .normal)
     s.Lawful ∧ s.configured 1 = true ∧ (s.car 1).lockCause = false ∧ (s.car 1).offset = some 0 ∧
     (s.stb.car 1).gripper = some ⟨⟨lbl, some ⟨3, 1⟩, 0⟩, .bay 0⟩ ∧ s.order 3 = some (order3 .picking) ∧
     (order3 .picking).line 1 ≠ none ∧ (((s.stb.leave 1).bay 1 1).stack.head?).bind (·.mark) = some ⟨3, 1⟩ ∧
     carrierOf 1 = 0) ∧
    (let s := settingDown .lift (.shift 0 .rack) (.back 0) .rack (.setting .normal)
     s.Lawful ∧ (s.car 1).current = some (visit .lift [.shift 0 .rack, .back 0]) ∧
     ((s.stb.setDownRack 1).car 1).rack = [⟨⟨lbl, some ⟨3, 1⟩, 0⟩, 0⟩]) ∧
    (∀ z ∈ [(VisitKind.lift, Action.shift 0 .sister, Dest.bay 1, Phase.setting .normal), (.lift, .back 0, .bay 0, .setting .normal),
        (.lift, lift0, .bay 0, .setting .slip), (.tidy, .place .rack, .rack, .setting .normal),
        (.tidy, .place (.bay 0), .bay 0, .setting .normal)],
      let s := settingDown z.1 z.2.1 (.recountReturn 0) z.2.2.1 z.2.2.2
      s.Lawful ∧ (s.car 1).current = some (visit z.1 [z.2.1, .recountReturn 0]) ∧ (s.car 1).offset = some (carrierOf 0) ∧
      (s.car 1).port.cmd = some (.setDown z.2.2.1) ∧ (s.car 1).port.phase = z.2.2.2) ∧
    (∀ z ∈ [(Action.recountTake 0, Dest.bay 1, Phase.setting (.found lbl), some 0),
        (.recountTake 0, .bay 0, .setting (.stop .unreadable), some 0), (.recountReturn 0, .bay 0, .setting .normal, some 0),
        (.recountReturn 0, .bay 0, .setting .normal, none)],
      let s := recountDown z.1 z.2.1 z.2.2.1 z.2.2.2
      s.Lawful ∧ (s.car 1).lockCause = false ∧ (s.car 1).port.phase = z.2.2.1 ∧ s.audit 0 = some audit ∧
      audit.gripped = true ∧ audit.moved = 0 + 1 ∧ (s.car 1).recountReturn = some ⟨0, 2⟩) := by
  simp only [lawful_iff]; decide +kernel

/-- A placement of the gripper's tyre on bay 0, with its GAUGE after it. -/
def placeVisit : Visit := visit .placement [.place (.bay 0), .gauge 0]
def placingTyre : State :=
  (withStore (gripping (stocked base none)) .placing Pau.reset).setCar 1
    (busyCar placeVisit (portWith (.setDown (.bay 0)) (.setting .normal)))

/-- Carousel 1 ends a placement without verification, or a set-down on the infeed, its store in a state. -/
def lastPlacing (infeed occupied : Bool) (declared : Nat) (st : StoreState) : State :=
  let v := visit .placement [.place (if infeed then .infeed else .bay 0)]
  let s := if infeed then stocked base none else gripping (stocked base none)
  ((s.modPau 1 fun p => { p with occupied := occupied, store := some { newStore lbl declared 8 with state := st } }).setCar 1
    (busyCar v (portWith (.setDown (if infeed then .infeed else .bay 0)) (.setting .normal)))).modCarLines 1 fun l =>
      { l with infeed := infeed }
/-- Carousel 1 ends its visit with a set-down, nothing more held. -/
def lastDown (k : VisitKind) (a : Action) (d : Dest) (o : Origin) : State :=
  { base with stb := (stock none).setCar 1 { (stock none).car 1 with gripper := some ⟨⟨lbl, none, 0⟩, o⟩ } }.setCar 1
    (busyCar (visit k [a]) (portWith (.setDown d) (.setting .normal)))

theorem wit_DonePlacesTyre :
    placingTyre.Lawful ∧ placingTyre.configured 1 = true ∧ (placingTyre.car 1).lockCause = false ∧
    (placingTyre.car 1).offset = some (carrierOf 0) ∧ (placingTyre.car 1).current = some placeVisit ∧
    (placingTyre.car 1).port.cmd = some (.setDown (.bay 0)) ∧ (placingTyre.car 1).port.phase = .setting .normal ∧
    (placingTyre.stb.car 1).gripper = some ⟨⟨lbl, none, 0⟩, .bay 0⟩ ∧
    (placingTyre.pauOf 1).store = some { newStore lbl 2 8 with state := .placing } ∧
    (∀ z ∈ [(false, true, 2, StoreState.placing), (false, false, 2, .placing), (false, false, 1, .placing),
        (true, true, 2, .placing), (true, true, 2, .ending .noRoom)],
      let s := lastPlacing z.1 z.2.1 z.2.2.1 z.2.2.2
      let x := s.car 1
      s.Lawful ∧ x.lockCause = false ∧ x.port.phase = .setting .normal ∧ x.state = .visiting ∧ x.visits = [] ∧
      x.service = none ∧ x.stage = none ∧ x.recountReturn = none ∧ (s.stb.car 1).rack = [] ∧
      (s.pauOf 1).requestHeld = false ∧ (s.pauOf 1).occupied = z.2.1 ∧ s.xu.mode = .running ∧
      (s.stb.car 1).gripper.isSome = !z.1 ∧ x.port.cmd = some (.setDown (if z.1 then .infeed else .bay 0)) ∧
      (s.pauOf 1).store.map (fun y => (y.declared, y.state)) = some (z.2.2.1, z.2.2.2)) := by
  simp only [lawful_iff]; decide +kernel

/-- The last action of a visit: a BACK of a tidy and of a lift visit, and a PLACE on the rack (beside
`DoneEndsAction`). -/
theorem wit_lastActionEndsVisit :
    ∀ z ∈ [(VisitKind.tidy, Action.back 0, Dest.bay 0), (.lift, .back 0, .bay 0), (.tidy, .place (.bay 0), .bay 0),
        (.tidy, .place .rack, .rack)],
      let s := lastDown z.1 z.2.1 z.2.2 (.rack 1)
      let x := s.car 1
      s.Lawful ∧ s.configured 1 = true ∧ x.lockCause = false ∧ x.offset = some (1 / 2) ∧
      x.current = some (visit z.1 [z.2.1]) ∧ x.port.cmd = some (.setDown z.2.2) ∧ x.port.phase = .setting .normal ∧
      x.state = .visiting ∧ x.visits = [] ∧ x.service = none ∧ x.stage = none ∧ x.recountReturn = none ∧
      (s.stb.car 1).rack = [] ∧ (s.stb.car 1).gripper = some ⟨⟨lbl, none, 0⟩, .rack 1⟩ ∧ s.xu.mode = .running := by
  simp only [lawful_iff]; decide +kernel

/-- Carousel 1 scans the tyre of bay 0, with so many records on its spur, locked or not. -/
def scanning (n : Nat) (locked : Bool) : State :=
  let s := (gripping (working lift0 { Port.reset with phase := .scanning, scan := .first, scanLimit := some 0 })).modCar 1
    fun x => { x with gateCause := locked }
  s.modBlc fun b => b.setSpur 1 (List.replicate n spurRec)

/-- The action behind a LIFT of bay 0: a LIFT of bay 1, whose top tyre has its mark. -/
def digNext : Action := .lift ⟨3, 1⟩ 1 0 false
/-- Tyres with the order's mark in both bays of carrier 0. -/
def twoMarked : Stb := (stock (some ⟨3, 1⟩)).setStack 1 1 [⟨lbl, some ⟨3, 1⟩, 0⟩]
/-- Carousel 1 scans the tyre of bay 0. -/
def slipping (scan : Scan) : State :=
  gripping ({ withOrder base .picking with stb := twoMarked }.setCar 1
    (busyCar (visit .lift [lift0, digNext]) { Port.reset with phase := .scanning, scan := scan, scanLimit := some 0 }))
/-- Carousel 1 grips at bay 0. -/
def emptyGrip : State :=
  { withOrder base .picking with stb := twoMarked }.setCar 1
    (busyCar (visit .lift [lift0, digNext]) (portWith (.gripStack 0) .gripping))
/-- The stock after a slip of bay 0. -/
def slipped (s : State) : Stb :=
  ((s.stb.suspect 1 0 .identity).removeMarks ((s.stb.suspect 1 0 .identity).ofBay 1 0)).1

/-- Carousel 1 scans the tyre of a SHIFT of bay 0, with tyres in the sister bay and on the rack, locked or not. -/
def shiftScan (dest : ShiftDest) (sister : List Entry) (rack : List RackEntry) (locked : Bool) : State :=
  let t := ((stock none).takeBay 1 0).setStack 1 1 sister
  { base with stb := t.setCar 1 { t.car 1 with rack := rack } }.setCar 1
    { busyCar (visit .lift [.shift 0 dest, lift0]) { Port.reset with
        phase := .scanning, scan := .retry, scanLimit := some 0 } with gateCause := locked }
/-- Carousel 1 scans a tyre at the infeed, with the batch map full or not, at an offset. -/
def intakeScan (t : Stb) (occupied : Bool) (o : Nat) : State :=
  let v := { visit .placement [.intake] with target := none }
  (({ withStore base .placing Pau.reset with stb := t }.setCar 1 { busyCar v { Port.reset with
    phase := .scanning, scan := .retry, scanLimit := some 0 } with offset := some o }).modCarLines 1 fun l =>
      { l with infeed := occupied })
/-- No bay of carousel 1 qualifies. -/
def noBay : Stb := (List.range 40).foldl (fun t b => t.suspect 1 b .variance) (stock none)
/-- Carousel 1 scans a tyre of a recount of bay 0, with tyres in the sister bay. -/
def recountScan (sister : List Entry) : State :=
  ({ base with stb := (stock none).setStack 1 1 sister }.setCar 1 (busyCar recountVisit { Port.reset with
    phase := .scanning, scan := .retry, scanLimit := some 0 })).setAudit 0 (some audit)

theorem wit_ScansAndSlips :
    (base.Lawful ∧ base.configured 1 = true ∧ labelOk 5 20 10 = true ∧ (base.car 1).port.scan = .none) ∧
    ((scanning 2 false).Lawful ∧ ((scanning 2 false).car 1).port.scan = .first ∧ ((scanning 2 false).spur 1).length = 2 ∧
      ((scanning 2 false).car 1).current = some { visit .lift [lift0] with taken := [] } ∧
      ((scanning 2 false).stb.car 1).gripper = some ⟨⟨lbl, some ⟨3, 1⟩, 0⟩, .bay 0⟩) ∧
    ((scanning 1 false).Lawful ∧ ((scanning 1 false).spur 1).length < 2 ∧ ((scanning 1 false).car 1).lockCause = false) ∧
    ((scanning 1 true).Lawful ∧ ((scanning 1 true).car 1).lockCause = true) ∧
    (takesFrom 0 lift0 = true ∧ lbl ≠ ⟨6, ⟨20, 10⟩⟩ ∧ (slipping .retry).Lawful ∧ ((slipping .retry).car 1).port.scan = .retry ∧
      ((slipping .retry).car 1).current = some (visit .lift [lift0, digNext]) ∧
      ((slipping .retry).stb.car 1).gripper = some ⟨⟨lbl, some ⟨3, 1⟩, 0⟩, .bay 0⟩) ∧
    (emptyGrip.Lawful ∧ (emptyGrip.car 1).offset = some 0 ∧ (emptyGrip.car 1).port.cmd = some (.gripStack 0) ∧
      ((emptyGrip.stb.bay 1 0).stack.head?).map (·.label) = some lbl ∧ (emptyGrip.stb.car 1).rack = [] ∧
      keepBacks [] 0 [digNext] = [digNext] ∧
      ((slipped emptyGrip).bay 1 1).stack.head?.bind (·.mark) = some ⟨3, 1⟩ ∧ carrierOf 1 = 0) := by
  simp only [lawful_iff]; decide +kernel

/-- Its clauses of a SHIFT, an INTAKE and a recount: the sister bay free or marked and the rack with room or full; the infeed
with a tyre or none, with a bay or none, with room in the map or none, and with the bay's carrier at the port or not; a
sister bay with room or none. -/
theorem wit_matchedScans :
    (∀ z ∈ [(ShiftDest.sister, 0, 0, false), (.rack, 1, 1, false), (.sister, 1, 3, false), (.sister, 1, 4, false),
        (.sister, 0, 0, true)],
      let s := shiftScan z.1 (List.replicate z.2.1 ⟨lbl, some ⟨3, 1⟩, 0⟩) (List.replicate z.2.2.1 ⟨⟨lbl, none, 0⟩, 4⟩) z.2.2.2
      s.Lawful ∧ (s.car 1).current = some (visit .lift [.shift 0 z.1, lift0]) ∧ (s.car 1).port.scan = .retry ∧
      (s.stb.car 1).gripper = some ⟨⟨lbl, none, 0⟩, .bay 0⟩ ∧ (s.car 1).lockCause = z.2.2.2 ∧
      (s.stb.bay 1 1).stack.length = z.2.1 ∧ (s.stb.car 1).rack.length = z.2.2.1) ∧
    (∀ z ∈ [(stock none, true, 0, some 0), (stock none, false, 7, some 0), (noBay, false, 0, none)],
      let s := intakeScan z.1 z.2.1 z.2.2.1
      s.Lawful ∧ (s.car 1).current.map (fun v => (v.kind, v.actions)) = some (.placement, [.intake]) ∧
      (s.car 1).port.scan = .retry ∧ (s.car 1).lockCause = false ∧ (s.car 1).offset = some z.2.2.1 ∧
      (s.pauOf 1).store.map (·.label) = some lbl ∧ s.slot 1 lbl = z.2.2.2 ∧ s.stb.hasKey lbl = true) ∧
    (let s := intakeScan fullMap false 0
     s.Lawful ∧ s.slot 1 lbl = some 0 ∧
     ({ fullMap with batch := fullMap.batch.map fun x => { x with key := lbl6 } } : Stb).hasKey lbl = false ∧
     fullMap.batch.length = 4096) ∧
    (∀ n ∈ [0, 11], let s := recountScan (List.replicate n ⟨lbl, none, 0⟩)
      s.Lawful ∧ (s.car 1).current = some recountVisit ∧ s.audit 0 = some audit ∧ audit.carousel = 1 ∧
      (s.car 1).port.scan = .retry ∧ (s.stb.bay 1 1).stack.length + audit.moved = n + 1 ∧
      (s.stb.article 5).defined = true ∧ (s.stb.article 6).defined = false) := by
  simp only [lawful_iff]; decide +kernel

/-- A tyre above a pending lift, and one below it. -/
def digItems : List Item := [⟨⟨lbl, none, 0⟩, 0, none⟩, ⟨⟨lbl, some ⟨3, 1⟩, 0⟩, 1, some ⟨3, 1⟩⟩, ⟨⟨lbl, none, 0⟩, 2, none⟩]

/-- The shift goes to the sister, to the rack, and nowhere. -/
theorem wit_DigPlanReachesLifts :
    (planBay (fun _ => 200) false 0 digItems [] []).1 = [.shift 0 .sister, .lift ⟨3, 1⟩ 0 1 false] ∧
    (planBay (fun _ => 200) true 0 digItems [] []).1 = [.shift 0 .rack, .lift ⟨3, 1⟩ 0 1 false, .back 0] ∧
    (planBay (fun _ => 200) true 0 digItems [] (List.replicate 4 ⟨⟨lbl, none, 0⟩, 4⟩)).2.2.2.2 = [⟨⟨3, 1⟩, 0, 1⟩] ∧
    digItems = digItems.take 1 ++ ⟨⟨lbl, some ⟨3, 1⟩, 0⟩, 1, some ⟨3, 1⟩⟩ :: digItems.drop 2 ∧
    (digPlan (fun _ => 200) ((stock (some ⟨3, 1⟩)).car 1) 0 (fun n => n == 3) [⟨3, 1, 1, 4, 4⟩, ⟨9, 1, 0, 0, 0⟩]).demands =
      [⟨9, 1, 0, 0, 0⟩, ⟨3, 1, 0, 4, 4⟩] := by decide +kernel

/-- Carousel 1 gauges bay 0. -/
def gauging (g : Gauge) : State := working (.gauge 0) { Port.reset with phase := .gauging, gauge := g }

/-- Carousel 1 gauges bay 0 in a glance of both bays of carrier 0, with seven conversions made. -/
def lastConversion (audit : Option Nat) : State :=
  ((stocked base none).setCar 1 (busyCar { visit .glance [.gauge 0, .gauge 1] with audit := audit, bays := [0, 1] }
    { Port.reset with phase := .gauging, gauge := .converting 0 (List.replicate 7 1) })).setAudit 0
      (some { newAudit false 1 0 8 false [0, 1] with visit := .inProgress 0 })

theorem wit_GaugeSettlesAndConverts :
    ((gauging (.settling 50)).Lawful ∧ ((gauging (.settling 50)).car 1).port.gauge = .settling 50 ∧
      ((gauging (.settling 50)).car 1).lockCause = false) ∧
    ((gauging (.converting 0 [1, 2, 3, 4, 5, 6])).Lawful ∧
      ((gauging (.converting 0 [1, 2, 3, 4, 5, 6])).car 1).current = some (visit .lift [.gauge 0]) ∧
      [1, 2, 3, 4, 5, 6].length < 7 ∧ 7 + 1 < 2 ^ (gauging .idle).cfg.resolution) ∧
    (∀ audit ∈ [none, some 0], (lastConversion audit).Lawful ∧
      ((lastConversion audit).car 1).port.gauge = .converting 0 [1, 1, 1, 1, 1, 1, 1] ∧
      ((lastConversion audit).car 1).offset = some 0 ∧ ((lastConversion audit).car 1).lockCause = false ∧
      ((lastConversion audit).audit 0).isSome) ∧
    ((gauging .idle).Lawful ∧ ((gauging .idle).car 1).port.gauge = .idle) := by simp only [lawful_iff]; decide +kernel

theorem wit_GaugeOutcomeByTolerance :
    10 + 3 * (((stock none).bay 1 0).stack.length : Rat) ≤ 13 ∧ 2 * 2000 / ((2 ^ 12 : Nat) : Rat) ≤ 13 ∧
    13 = 10 + 3 * (((stock none).bay 1 0).stack.length : Rat) ∧
    10 + 2 * (((stock none).bay 1 0).load : Rat) / 100 ≤ 12 ∧ 2 * 6000 / ((2 ^ 12 : Nat) : Rat) ≤ 12 ∧
    12 = 10 + 2 * (((stock none).bay 1 0).load : Rat) / 100 := by decide +kernel

/-- Carousel 1 grips in a lift visit with its score near the top, a mark in bay 2, a visit of each kind waiting, and a store
or none, a RECOUNT waiting or none. -/
def nearSidelining (store recount : Bool) : State :=
  let w : Visit := { visit .recount [] with id := 3, audit := some 0, target := some 1, bays := [3, 2] }
  let s := { working lift0 (portWith (.gripStack 0) .gripping) with
    stb := (stock (some ⟨3, 1⟩)).setStack 1 2 [⟨lbl, some ⟨4, 1⟩, 0⟩] }
  let s := s.modCar 1 fun x => { x with
    score := 250, visits := [visit .glance [], { visit .lift [] with demands := [⟨4, 1, 2, 0, 0⟩] }] ++
      (if recount then [w] else []) ++ [visit .tidy []] }
  let s := if store then withStore s .waitingArrival Pau.reset else s
  if recount then s.setAudit 0 (some { newAudit true 1 0 9 false [3] with visit := .waiting 1 }) else s

set_option synthInstance.maxSize 2048 in
theorem wit_FaultsCaptureNotice :
    (gripState.Lawful ∧ gripState.configured 1 = true ∧ (gripState.car 1).lockCause = false ∧
      (gripState.car 1).stage ≠ some .tidy ∧ (visit .lift [lift0]).actions.head? = some lift0 ∧
      (gripState.car 1).service = none ∧ (gripState.xu.notices.getD 0 Notice.reset).held = false ∧
      (gripState.car 1).port.cmd ≠ none ∧ (gripState.car 1).port.actionLimit ≠ none ∧
      (gripState.car 1).score + 16 ≤ 255) ∧
    ((gripState.modCar 1 fun x => { x with score := 250 }).Lawful ∧ 255 < 250 + 16) ∧
    ((scanning 0 false).Lawful ∧ ((scanning 0 false).car 1).port.scanLimit ≠ none) ∧
    ((gauging (.converting 0 [])).Lawful ∧ ((gauging (.converting 0 [])).car 1).port.gauge = .converting 0 [] ∧
      8 ≤ (gauging (.converting 0 [])).cfg.resolution ∧ (gauging (.converting 0 [])).cfg.resolution ≤ 12) ∧
    ((moving 5 none).Lawful ∧ ((moving 5 none).car 1).watchdog ≠ none ∧ ((moving 5 none).car 1).pass = none) ∧
    (((moving 5 none).modCar 1 fun x => { x with offset := some 3 }).Lawful ∧ (3 + 1) % 20 ≠ 0) ∧
    (∀ z ∈ [(false, false), (true, false), (true, true)],
      let s := nearSidelining z.1 z.2
      let x := s.car 1
      s.Lawful ∧ s.configured 1 = true ∧ x.lockCause = false ∧ x.stage = none ∧ x.current = some (visit .lift [lift0]) ∧
      x.service = none ∧ 255 < x.score + 16 ∧ x.port.cmd = some (.gripStack 0) ∧ (s.stb.car 1).gripper = none ∧
      (s.stb.car 1).rack = [] ∧ x.recountReturn = none ∧ s.xu.mode = .running ∧
      (s.stb.removeMarks (ofCarousel 1)).2 = [⟨3, 1⟩, ⟨4, 1⟩] ∧ (s.pauOf 1).store.isSome = z.1 ∧
      (s.audit 0).isSome = z.2 ∧ (∀ j < 8, j ≠ 0 → s.audit j = none) ∧
      (z.2 = true → (∃ w ∈ x.visits, w.kind = .recount ∧ w.audit = some 0) ∧
        (s.audit 0).map (fun q => (q.carousel, q.recount, q.ended, q.reseek)) = some (1, true, false, false))) := by
  simp only [lawful_iff]
  refine ⟨?_, ?_, ?_, ?_, ?_, ?_, ?_⟩ <;> decide +kernel

/-- A carousel is sidelined with a glance waiting, two requests held and a store (R134, R151): the removed visit's frame
returns, then those of the requests held by acceptance, then the store's. -/
theorem test_bulkRemovalReports :
    let s := nearSidelining true false
    let w : Visit := { visit .glance [] with id := 3, audit := some 1, target := some 1, bays := [3, 2] }
    let s := s.modCar 1 fun x => { x with visits := w :: x.visits }
    let s := s.setAudit 1 (some { newAudit false 1 5 21 false [3, 2] with visit := .waiting 1 })
    let s := s.setAudit 0 (some { newAudit true 1 7 20 false [3] with asking := true })
    let s := s.setAudit 2 (some { newAudit false 1 6 22 false [3, 2] with asking := true })
    (match exec (.gripperFault 1 false) s with | .next t => t.xu.returns | _ => []) = [21, 22, 20, 8] := by
  decide +kernel

/-- Carousel 1 in a home pass of a SERVICE docket. -/
def servicePass (st : CarState) (k : ServiceKind) (n : Nat) (o : Option Nat) : State :=
  withCar { inPass st o.isNone n o with service := some ⟨8, k⟩, passCount := 1 }
/-- Carousel 1 homes for a START that awaits two. -/
def startPass : State :=
  { configured.setCar 1 (inPass .homing false 5 (some 5)) with
    xu := { configured.xu with start := some ⟨8, [1, 2], List.replicate 12 0⟩ } }

theorem wit_HomePassFails :
    ((servicePass .recovering .restore 4 (some 4)).Lawful ∧ (servicePass .recovering .restore 4 (some 4)).configured 1 = true ∧
      ((servicePass .recovering .restore 4 (some 4)).car 1).pass = some ⟨true, false, 4⟩ ∧
      ((servicePass .recovering .restore 4 (some 4)).car 1).watchdog ≠ none ∧
      ((servicePass .recovering .restore 4 (some 4)).car 1).lockCause = false ∧
      ((servicePass .recovering .restore 4 (some 4)).car 1).drive = some ⟨.forward, .creep⟩ ∧
      true ≠ decide ((4 + 1) % 20 = 0)) ∧
    ((servicePass .homing .leaveMaintenance 19 none).Lawful ∧
      ((servicePass .homing .leaveMaintenance 19 none).car 1).pass = some ⟨true, true, 19⟩ ∧
      ((servicePass .homing .leaveMaintenance 19 none).car 1).visits = [] ∧
      ((servicePass .homing .leaveMaintenance 19 none).stb.removeMarks (ofCarousel 1)).2 = [] ∧
      ((servicePass .homing .leaveMaintenance 19 none).pauOf 1).store = none ∧
      (∀ a ∈ (servicePass .homing .leaveMaintenance 19 none).aud.records, a = none) ∧
      (servicePass .homing .leaveMaintenance 19 none).xu.start = none) ∧
    (startPass.Lawful ∧ startPass.configured 1 = true ∧ (startPass.car 1).state = .homing ∧
      (startPass.car 1).service = none ∧ startPass.xu.start = some ⟨8, [1, 2], List.replicate 12 0⟩ ∧
      ∃ d ∈ [1, 2], d ≠ 1) := by simp only [lawful_iff]; decide +kernel

/-! ### Hypotheses met: put-away, belt and orders -/

theorem wit_SlotChoiceByFourKeys : (base.car 1).offset = some 0 := by decide +kernel

theorem wit_SlotQualifies :
    12 ≤ ((base.modStb fun t => t.setStack 1 0 (List.replicate 12 ⟨lbl, none, 0⟩)).stb.bay 1 0).stack.length := by
  decide +kernel

/-- The infeed of carousel 1, with the carousel visiting. -/
def atInfeed (st : Option StoreState) (p : Pau) : State :=
  let s := visiting1.modPau 1 fun _ => p
  match st with
  | none => s
  | some st => withStore s st p
/-- A placement visit waits, or runs. -/
def placementWaits : State := (atInfeed (some .waitingArrival) Pau.reset).modCar 1 fun x => { x with visits := [visit .placement [.intake]] }
def placementRuns (ph : Phase) : State :=
  (withStore base .placing { Pau.reset with occupied := true }).setCar 1
    (busyCar (visit .placement [.place .infeed]) { Port.reset with phase := ph, actionLimit := some 0 })

theorem wit_InfeedArrivals :
    ((atInfeed none { Pau.reset with returnPending := true }).Lawful ∧ base.configured 1 = true) ∧
    ((atInfeed none Pau.reset).Lawful ∧ ((atInfeed none Pau.reset).pauOf 1).store = none) ∧
    (placementWaits.Lawful ∧ placementWaits.inService 1 = true ∧ (placementWaits.car 1).state = .visiting ∧
      (placementWaits.car 1).visits.any (fun v => v.kind == .placement) = true) ∧
    ((atInfeed (some .waitingArrival) Pau.reset).Lawful ∧ (atInfeed (some .waitingArrival) Pau.reset).inService 1 = true ∧
      ((atInfeed (some .waitingArrival) Pau.reset).car 1).visits = []) ∧
    ((placementRuns .waitInfeed).Lawful ∧ ((placementRuns .waitInfeed).car 1).placementIn = true) ∧
    (atInfeed (some (.ending .done)) Pau.reset).Lawful := by simp only [lawful_iff]; decide +kernel

theorem wit_InfeedFallsAndTimesOut :
    ((atInfeed none { Pau.reset with occupied := true }).Lawful ∧
      ((atInfeed none { Pau.reset with occupied := true }).car 1).port.phase ≠ .waitInfeed) ∧
    (placing.Lawful ∧ (placing.car 1).placementIn = false ∧ (placing.pauOf 1).requestHeld = false ∧
      ((placing.pauOf 1).store.map (·.state)) = some .placing) ∧
    ((placementRuns .waitInfeed).Lawful ∧ ((placementRuns .waitInfeed).car 1).port.phase = .waitInfeed ∧
      ((placementRuns .waitInfeed).car 1).lockCause = false) ∧
    (base.Lawful ∧ (base.pauOf 1).arrival = none) ∧
    (waiting.Lawful ∧ (waiting.pauOf 1).arrival ≠ none ∧ (waiting.pauOf 1).store ≠ none) := by
  simp only [lawful_iff]; decide +kernel

/-- A LIFT of carousel 1 waits for room on its spur. -/
def waitsRoom (locked : Bool) : State :=
  (atSpur.setCar 1 { busyCar (visit .lift [lift0]) { Port.reset with phase := .waitRoom false } with gateCause := locked })

theorem wit_MergeTakesRankedSpur :
    base.Lawful ∧ base.mergeWindow = false ∧ (atSpur.Lawful ∧ atSpur.blc.running = true ∧ atSpur.blc.spent = false ∧
      atSpur.lines.mergeClear = true ∧ atSpur.blc.tracking.length < 48 ∧ atSpur.requesters = [1] ∧
      (atSpur.car 1).port.phase = .ready) ∧
    ((waitsRoom false).Lawful ∧ (waitsRoom false).requesters = [1] ∧ (waitsRoom true).Lawful ∧
      (waitsRoom true).requesters = [1] ∧ ((waitsRoom true).car 1).lockCause = true) := by
  simp only [lawful_iff]; decide +kernel

theorem wit_MergeEventsTestWindow :
    (atSpur.Lawful ∧ (List.replicate 12 true).length = 12 ∧ atSpur.configured 1 = true) ∧
    ((atSpur.modBlc fun b => { b with guard := some 300, guardStayed := true, spent := true }).Lawful ∧
      (atSpur.modBlc fun b => { b with guard := some 300 }).Lawful ∧ atSpur.blc.guard = none) := by
  simp only [lawful_iff]; decide +kernel

/-- The belt carries a record of the order in slot 3, and stock holds a tyre for it. -/
def beltStocked (st : OrderState) : State :=
  { onBelt st with cars := (allVisiting (stock none)).cars, stb := stock none }
/-- The line of that order with its tyre lost. -/
def lostLine : Line := ⟨5, 2, .any, 1, 0, 0, 0, 1, []⟩

/-- The order of slot 3 with so many tyres reserved and in transit, one of them at the sorter, and records behind it. -/
def atSorter (m : PartMode) (st : OrderState) (reserved transit : Nat) (behind : List TrackRec) : State :=
  { (onBelt st).modOrder 3 fun o => { o with
      lines := o.lines.map fun l => { l with reserved := reserved, inTransit := transit } } with
    xu := { base.xu with mode := m }, blc := { base.blc with tracking := trackRec :: behind } }
/-- A record of another label of the order of slot 3 stands before the one at the sorter; stock holds a tyre for it or none. -/
def skipping (st : OrderState) (stocks : Bool) (n : Nat) : State :=
  let s := if stocks then beltStocked st else onBelt st
  s.modBlc fun b => { b with tracking := List.replicate n skippedRec ++ [trackRec] }
where
  /-- The skipped record. -/
  skippedRec : TrackRec := ⟨{ spurRec with label := ⟨6, ⟨20, 3⟩⟩ }, 2, 0⟩

set_option synthInstance.maxSize 2048 in
theorem wit_SorterDivertsMatch :
    labelOk 5 20 10 = true ∧ trackRec.spur.label = lbl ∧
    (∀ m ∈ [PartMode.running, .halting], ∀ st ∈ [OrderState.picking, .closing, .cancelling],
      ∀ z ∈ [(1, 1), (0, 2), (0, 1)], ∀ behind ∈ [[], [trackRec]],
      let s := atSorter m st z.1 z.2 behind
      s.Lawful ∧ s.blc.running = true ∧ s.fresh.requesters = [] ∧
      s.blc.tracking = trackRec :: behind ∧ (s.order 3).map (fun o => (o.state, o.lane)) = some (st, some 1) ∧
      (∀ l ∈ s.blc.spurs, l = []) ∧ (∀ x ∈ s.cars, x.current = none) ∧
      ((s.order 3).map fun o => (o.modLine 1 fun l => { l with inTransit := l.inTransit - 1 }).lines.map fun l =>
        (l.reserved, l.inTransit)) = some [(z.1, z.2 - 1)]) ∧
    (∀ st ∈ [OrderState.picking, .closing, .cancelling], ∀ stocks ∈ [true, false], ∀ p ∈ [1, 3],
      let s := skipping st stocks p
      s.Lawful ∧ s.blc.running = true ∧ s.fresh.requesters = [] ∧ s.blc.tracking[p]? = some trackRec ∧
      (∀ x ∈ s.blc.tracking.take p, x.spur.label ≠ trackRec.spur.label) ∧ s.xu.mode ≠ .halting ∧
      s.order 3 = some (order3 st) ∧ (∃ l ∈ (order3 st).lines, l.reserved ≠ 0) ∧ (order3 st).timedOut = false ∧
      ((order3 st).line 1).isSome = true ∧
      (s.seek 3 1 { lostLine with held := [1069] } none fun _ => true).isSome = stocks) := by
  simp only [lawful_iff]; decide +kernel

theorem wit_SorterStraysFillChute :
    (State.reset.Lawful ∧ State.reset.blc.running = false) ∧ (base.Lawful ∧ base.blc.running = true ∧
      base.blc.tracking.take 4 = [] ∧ base.blc.chute + 1 < 24) ∧
    ((base.modBlc fun b => { b with chute := 23 }).Lawful ∧ 23 + 1 = 24) := by simp only [lawful_iff]; decide +kernel

theorem wit_TransitExpiryLosesRecord :
    (State.reset.Lawful ∧ State.reset.blc.running = false) ∧ (base.Lawful ∧ base.blc.tracking[0]? = none) ∧
    ((onBelt .cancelling).Lawful ∧ (onBelt .cancelling).blc.tracking[0]? = some trackRec ∧
      (onBelt .cancelling).order 3 = some (order3 .cancelling) ∧ ((order3 .cancelling).line 1).isSome = true ∧
      (∃ m ∈ (order3 .cancelling).lines, m.reserved ≠ 0) ∧ (onBelt .cancelling).fresh.requesters = []) ∧
    (∀ st ∈ [OrderState.picking, .closing], (onBelt st).Lawful ∧ (onBelt st).order 3 = some (order3 st) ∧
      (order3 st).timedOut = false ∧ (onBelt st).seek 3 1 lostLine none (fun _ => true) = none ∧
      (∃ m ∈ (order3 st).lines, m.reserved ≠ 0) ∧ (beltStocked st).Lawful ∧ (beltStocked st).order 3 = some (order3 st) ∧
      (beltStocked st).seek 3 1 lostLine none (fun _ => true) = some ⟨1, 0, 0, 1069⟩ ∧
      (beltStocked st).fresh.requesters = [] ∧
      ((beltStocked st).car 1).state = .visiting ∧ ((beltStocked st).car 1).visits = []) := by
  simp only [lawful_iff]; decide +kernel

theorem wit_PickTimerClosesOrder :
    (State.reset.Lawful ∧ State.reset.xu.mode ≠ .running ∧ base.order 3 = none) ∧
    ((withOrder base .picking).Lawful ∧ (withOrder base .picking).xu.mode = .running ∧
      (withOrder base .picking).order 3 = some (order3 .picking) ∧ (order3 .picking).run = .running ∧
      (∀ x ∈ (withOrder base .picking).cars, x.visits = [] ∧ x.current = none) ∧
      ∃ l ∈ (order3 .picking).lines, l.inTransit ≠ 0) ∧
    (let s := withOrder (stocked base (some ⟨3, 1⟩)) .picking
     s.Lawful ∧ s.order 3 = some (order3 .picking) ∧ (s.stb.removeMarks (ofOrder 3 [])).2 = [⟨3, 1⟩]) := by
  simp only [lawful_iff]; decide +kernel

/-- The order of slot 3 with a second line that keeps a mark reserved, and a batch for its first line. -/
def reseeking (st : OrderState) (timedOut : Bool) (t : Stb) : State :=
  { (withOrder (allVisiting t) st).modOrder 3 fun o => { o with timedOut := timedOut, lines := o.lines ++ o.lines } with
    rse := [batch] }
/-- Its first line. -/
def line3 : Line := ⟨5, 2, .any, 1, 1, 0, 0, 0, [1069]⟩
/-- A recount that waits for its batch, its visit at an end or not. -/
def settling (ended : Bool) : State :=
  { base.setAudit 0 (some { audit with reseek := true, ended := ended, code := 0x01 }) with
    rse := [{ batch with audit := some 0 }] }

theorem wit_ReseekWithdrawnTakesNext :
    (base.Lawful ∧ base.rse = []) ∧
    (({ base with rse := [batch] } : State).Lawful ∧ batch.items = [⟨⟨3, 1⟩, 1⟩] ∧ batch.audit = none ∧ base.order 3 = none) ∧
    (∀ e ∈ [true, false], (settling e).Lawful ∧ (settling e).order 3 = none ∧ ((settling e).audit 0).map (·.ended) = some e) ∧
    (∀ z ∈ [(OrderState.cancelling, false), (.laneWait, false), (.picking, false), (.closing, false), (.closing, true)],
      (∀ t ∈ [stock none, stock (some ⟨9, 1⟩)], (reseeking z.1 z.2 t).Lawful ∧
        ((reseeking z.1 z.2 t).order 3).map (fun o => (o.state, o.timedOut, o.seq, o.line 1)) =
          some (z.1, z.2, 1, some line3)) ∧
      (reseeking z.1 z.2 (stock none)).seek 3 1 line3 none (fun x => some x.c != none) = some ⟨1, 0, 0, 1069⟩ ∧
      (reseeking z.1 z.2 (stock (some ⟨9, 1⟩))).seek 3 1 line3 none (fun x => some x.c != none) = none ∧
      ((reseeking z.1 z.2 (stock none)).car 1).state = .visiting ∧ ((reseeking z.1 z.2 (stock none)).car 1).visits = []) := by
  simp only [lawful_iff]
  exact ⟨by decide +kernel, by decide +kernel, by decide +kernel, by decide +kernel⟩

/-- The cadence timer of carousel 1 counts. -/
def cadenceOn (s : State) : State := s.modCadence 1 fun y => { y with interval := 60 }

theorem wit_CadenceSetsAndAsksGlances :
    (sCadence.Lawful ∧ sCadence.Accepts 0 .cadence) ∧
    (base.Lawful ∧ base.configured 1 = true ∧ ¬ 0 < (base.cadenceOf 1).interval) ∧
    ((cadenceOn audits3).Lawful ∧ 0 < ((cadenceOn audits3).cadenceOf 1).interval ∧
      (cadenceOn audits3).xu.mode = .running ∧ (cadenceOn audits3).inService 1 = true ∧
      3 ≤ ((cadenceOn audits3).car 1).auditsWaiting) ∧
    ((cadenceOn visiting1).Lawful ∧ (cadenceOn visiting1).inService 1 = true ∧
      ((cadenceOn visiting1).car 1).visits = [] ∧ ((cadenceOn visiting1).car 1).state = .visiting) := by
  simp only [lawful_iff]; decide +kernel

end Sys2Proof.Tests
end

section
/-! The put-away family: the ranking of R39 and R76 as a least element, what qualifies a bay and which one slotting chooses
(R75, R76), the taking of a STORE (R66), and the edges of infeed present with the arrival timer (R50, R68 to R72, R79). -/

namespace Sys2Proof.Machine

/-! ### Rankings: the first by keys is a least one -/

@[simp] theorem keysLe_nil (l : List Nat) : keysLe [] l = true := by
  cases l <;> rfl

theorem keysLe_cons_iff {a b : Nat} {as bs : List Nat} :
    keysLe (a :: as) (b :: bs) = true ↔ a < b ∨ (a = b ∧ keysLe as bs = true) := by
  simp [keysLe]

theorem keysLe_total (as bs : List Nat) : keysLe as bs = true ∨ keysLe bs as = true := by
  induction as generalizing bs with
  | nil => simp
  | cons a as ih =>
    cases bs with
    | nil => simp
    | cons b bs =>
      simp only [keysLe_cons_iff]
      rcases Nat.lt_trichotomy a b with h | rfl | h
      · exact .inl (.inl h)
      · simpa using ih bs
      · exact .inr (.inl h)

theorem keysLe_trans {as bs cs : List Nat} (h : keysLe as bs = true) (h' : keysLe bs cs = true) :
    keysLe as cs = true := by
  induction as generalizing bs cs with
  | nil => simp
  | cons a as ih =>
    cases bs with
    | nil => simp [keysLe] at h
    | cons b bs =>
      cases cs with
      | nil => simp [keysLe] at h'
      | cons c cs =>
        rw [keysLe_cons_iff] at h h' ⊢
        rcases h with h | ⟨rfl, h⟩ <;> rcases h' with h' | ⟨rfl, h'⟩
        · exact .inl (Nat.lt_trans h h')
        · exact .inl h
        · exact .inl h'
        · exact .inr ⟨rfl, ih h h'⟩

/-- The head after an insertion is the new item or the head before. -/
theorem head?_insertBy {α : Type} (le : α → α → Bool) (x : α) (l : List α) :
    (insertBy le x l).head? = some (l.head?.elim x fun y => if le x y then x else y) := by
  cases l with
  | nil => rfl
  | cons y ys =>
    simp only [insertBy, List.head?_cons, Option.elim_some]
    split <;> rfl

theorem firstBy_cons {α : Type} (key : α → List Nat) (x : α) (l : List α) :
    firstBy key (x :: l) =
      some ((firstBy key l).elim x fun y => if keysLe (key x) (key y) then x else y) :=
  head?_insertBy _ x (rankBy key l)

theorem firstBy_eq_none_iff {α : Type} (key : α → List Nat) (l : List α) : firstBy key l = none ↔ l = [] := by
  cases l with
  | nil => exact ⟨fun _ => rfl, fun _ => rfl⟩
  | cons x l => simp [firstBy_cons]

/-- The first by keys stands in the list, and no item of the list goes before it. -/
theorem firstBy_least {α : Type} {key : α → List Nat} {l : List α} {m : α} (h : firstBy key l = some m) :
    m ∈ l ∧ ∀ y ∈ l, keysLe (key m) (key y) = true := by
  induction l generalizing m with
  | nil => cases h
  | cons x l ih =>
    rw [firstBy_cons, Option.some.injEq] at h
    have hxx : keysLe (key x) (key x) = true := (keysLe_total _ _).elim id id
    cases hl : firstBy key l with
    | none =>
      obtain rfl := (firstBy_eq_none_iff key l).mp hl
      obtain rfl : x = m := by simpa [hl] using h
      simpa using hxx
    | some n =>
      obtain ⟨hn, hle⟩ := ih hl
      rw [hl, Option.elim_some] at h
      split at h
      case isTrue hxn =>
        subst h
        refine ⟨List.mem_cons_self, fun y hy => ?_⟩
        rcases List.mem_cons.mp hy with rfl | hy
        · exact hxx
        · exact keysLe_trans hxn (hle y hy)
      case isFalse hxn =>
        subst h
        refine ⟨List.mem_cons_of_mem _ hn, fun y hy => ?_⟩
        rcases List.mem_cons.mp hy with rfl | hy
        · exact (keysLe_total _ _).resolve_left hxn
        · exact hle y hy

/-! ### Slotting (R75, R76) -/

/-- The six conditions of R75. -/
theorem State.qualifies_iff (s : State) (c b : Nat) (l : Label) :
    s.qualifies c b l = true ↔
      ((s.stb.bay c b).held = none ∧ (s.stb.bay c b).suspect = none) ∧
      (∀ e ∈ (s.stb.bay c b).stack, e.mark = none) ∧
      (s.stb.bay c b).stack.length < 12 ∧
      (s.stb.bay c b).height + s.stb.pitch l.article ≤ 1600 ∧
      (s.stb.car c).carrierLoad (b / 2) + s.stb.mass l.article ≤ 5000 ∧
      (∀ e ∈ (s.stb.bay c b).stack, e.label = l) := by
  simp only [State.qualifies, Bool.and_eq_true, Option.isNone_iff_eq_none, List.all_eq_true, decide_eq_true_eq,
    beq_iff_eq, and_assoc]
  exact Iff.rfl

theorem State.carrierLoad_eq (s : State) (c k : Nat) :
    (s.stb.car c).carrierLoad k = (s.stb.bay c (2 * k)).load + (s.stb.bay c (2 * k + 1)).load := rfl

/-- A stack is of one label when it is empty, too. -/
theorem forall_label_iff (stack : List Entry) (l : Label) :
    (stack = [] ∨ ∀ e ∈ stack, e.label = l) ↔ ∀ e ∈ stack, e.label = l := by
  refine or_iff_right_of_imp ?_
  rintro rfl
  simp

theorem absDiff_eq_natAbs (a b : Nat) : absDiff a b = ((a : Int) - b).natAbs := by
  unfold absDiff; omega

/-- Recorded loads summed as integers. -/
theorem sum_load_cast (l : List Bay) :
    (((l.map fun y => y.load).sum : Nat) : Int) = (l.map fun y => (y.load : Int)).sum := by
  induction l with
  | nil => rfl
  | cons y l ih => rw [List.map_cons, List.sum_cons, List.map_cons, List.sum_cons, Int.natCast_add, ih]

/-- The load of carriers 0 to 9 (R7), summed as integers. -/
theorem CarStock.halves_fst_cast (x : CarStock) :
    (x.halves.1 : Int) = ((x.bays.take 20).map fun y => (y.load : Int)).sum :=
  sum_load_cast (x.bays.take 20)

/-- Key 2 of R76 over the integers. -/
theorem CarStock.imbalanceWith_eq (x : CarStock) (k mass : Nat) :
    x.imbalanceWith k mass =
      if k < 10 then (((x.bays.take 20).map fun y => (y.load : Int)).sum + mass - x.halves.2).natAbs
      else (((x.bays.take 20).map fun y => (y.load : Int)).sum - (x.halves.2 + mass)).natAbs := by
  unfold CarStock.imbalanceWith
  simp only [absDiff_eq_natAbs, Int.natCast_add, CarStock.halves_fst_cast]

theorem mem_qualifying_iff (s : State) (c : Nat) (l : Label) (b : Nat) :
    b ∈ ((List.range Config.bays).filter fun b => s.qualifies c b l) ↔ b < 40 ∧ s.qualifies c b l = true := by
  rw [List.mem_filter, List.mem_range]
  exact Iff.rfl

theorem State.slot_eq_none_iff (s : State) (c : Nat) (l : Label) :
    s.slot c l = none ↔ ∀ b, b < 40 → s.qualifies c b l = false := by
  simp only [State.slot, firstBy_eq_none_iff, List.eq_nil_iff_forall_not_mem, mem_qualifying_iff, not_and,
    Bool.not_eq_true]

/-- The chosen bay qualifies, and no qualifying bay goes before it by the four keys. -/
theorem State.slot_least {s : State} {c : Nat} {l : Label} {b : Nat} (h : s.slot c l = some b) :
    (b < 40 ∧ s.qualifies c b l = true) ∧
      ∀ b', b' < 40 → s.qualifies c b' l = true → keysLe (s.slotKeys c l b) (s.slotKeys c l b') = true := by
  obtain ⟨hb, hle⟩ := firstBy_least h
  exact ⟨(mem_qualifying_iff s c l b).mp hb, fun b' h40 hq => hle b' ((mem_qualifying_iff s c l b').mpr ⟨h40, hq⟩)⟩

/-- Key 1 of R76: the flag of an empty stack is lower for a stack that is not empty. -/
theorem isEmpty_toNat_lt_iff {α : Type} (l l' : List α) :
    l.isEmpty.toNat < l'.isEmpty.toNat ↔ l ≠ [] ∧ l' = [] := by
  cases l <;> cases l' <;> simp

theorem isEmpty_toNat_eq_iff {α : Type} (l l' : List α) :
    l.isEmpty.toNat = l'.isEmpty.toNat ↔ (l = [] ↔ l' = []) := by
  cases l <;> cases l' <;> simp

/-- The last key of R76: of two bays the lower number is the lower carrier and then side A. -/
theorem bay_lt_iff (b b' : Nat) : b < b' ↔ b / 2 < b' / 2 ∨ (b / 2 = b' / 2 ∧ b % 2 < b' % 2) := by omega

/-- Two different bays: one goes before the other by the four keys of R76 in turn. -/
theorem State.slotKeys_le_iff (s : State) (c : Nat) (l : Label) {b b' : Nat} (hne : b' ≠ b) :
    keysLe (s.slotKeys c l b) (s.slotKeys c l b') = true ↔
      ((s.stb.bay c b).stack ≠ [] ∧ (s.stb.bay c b').stack = []) ∨
      (((s.stb.bay c b).stack = [] ↔ (s.stb.bay c b').stack = []) ∧
        ((s.stb.car c).imbalanceWith (b / 2) (s.stb.mass l.article) <
            (s.stb.car c).imbalanceWith (b' / 2) (s.stb.mass l.article) ∨
          ((s.stb.car c).imbalanceWith (b / 2) (s.stb.mass l.article) =
              (s.stb.car c).imbalanceWith (b' / 2) (s.stb.mass l.article) ∧
            (stepsBetween ((s.car c).offset.getD 0) (b / 2) < stepsBetween ((s.car c).offset.getD 0) (b' / 2) ∨
              (stepsBetween ((s.car c).offset.getD 0) (b / 2) = stepsBetween ((s.car c).offset.getD 0) (b' / 2) ∧
                (b / 2 < b' / 2 ∨ (b / 2 = b' / 2 ∧ b % 2 < b' % 2))))))) := by
  have hne' : b ≠ b' := hne.symm
  simp only [State.slotKeys, carrierOf, keysLe_cons_iff, isEmpty_toNat_lt_iff, isEmpty_toNat_eq_iff, hne', false_and,
    or_false, bay_lt_iff b b']

/-! ### A command that neither owes a pass nor empties the part

`t.RestsLike s`: what winding a command up reads stands in `t` as in `s`. Every update of the put-away meanings keeps
it, so such a command is its effect alone. -/

/-- `t` owes the passes `s` owes, and its HALTING is as far from complete as that of `s`. -/
structure State.RestsLike (t s : State) : Prop where
  agenda : t.agenda = s.agenda
  skip : t.skip = s.skip
  mode : t.xu.mode = s.xu.mode
  cfg : t.cfg = s.cfg
  blc : t.blc = s.blc
  current : ∀ d, (t.car d).current.isNone = (s.car d).current.isNone

namespace State.RestsLike

variable {s t : State}

theorem refl (s : State) : s.RestsLike s := ⟨rfl, rfl, rfl, rfl, rfl, fun _ => rfl⟩

theorem drained (h : t.RestsLike s) : t.drained = s.drained := by
  unfold State.drained State.configuredList
  simp only [h.cfg, h.blc, h.current]

theorem haltPending (h : t.RestsLike s) (hs : s.HaltPending) : t.HaltPending :=
  State.haltPending_congr hs h.mode h.drained

theorem modPau (h : t.RestsLike s) (c : Nat) (f : Pau → Pau) : (t.modPau c f).RestsLike s :=
  ⟨h.agenda, h.skip, h.mode, h.cfg, h.blc, h.current⟩

theorem emit (h : t.RestsLike s) (o : Out) : (t.emit o).RestsLike s :=
  ⟨h.agenda, h.skip, h.mode, h.cfg, h.blc, h.current⟩

theorem capture (h : t.RestsLike s) (r kind : Nat) (d : List Byte) : (t.capture r kind d).RestsLike s :=
  ⟨h.agenda, h.skip, (Xu.capture_mode ..).trans h.mode, h.cfg, h.blc, h.current⟩

theorem answer (h : t.RestsLike s) (f code flags : Nat) (d : List Byte) : (t.answer f code flags d).RestsLike s :=
  ⟨h.agenda, h.skip, (Xu.frameReturn_mode ..).trans h.mode, h.cfg, h.blc, h.current⟩

theorem takeFrame (h : t.RestsLike s) (f : Nat) : (t.takeFrame f).RestsLike s :=
  ⟨h.agenda, h.skip, h.mode, h.cfg, h.blc, h.current⟩

theorem setInfeed (h : t.RestsLike s) (c : Nat) (v : Bool) : (t.setInfeed c v).RestsLike s :=
  ⟨h.agenda, h.skip, h.mode, h.cfg, h.blc, h.current⟩

theorem withOuts (h : t.RestsLike s) (l : List Out) : ({ t with outs := l } : State).RestsLike s :=
  ⟨h.agenda, h.skip, h.mode, h.cfg, h.blc, h.current⟩

theorem nextSerial (h : t.RestsLike s) : ({ t with serial := t.serial + 1 } : State).RestsLike s :=
  ⟨h.agenda, h.skip, h.mode, h.cfg, h.blc, h.current⟩

/-- A change of a carousel's record that leaves its visit in progress. -/
theorem modCar (h : t.RestsLike s) (c : Nat) (f : Car → Car) (hc : c - 1 < t.cars.length)
    (hf : ∀ x, (f x).current = x.current) : (t.modCar c f).RestsLike s := by
  refine ⟨h.agenda, h.skip, h.mode, h.cfg, h.blc, fun d => ?_⟩
  rw [← h.current d]
  by_cases hd : c - 1 = d - 1
  · have e : ∀ u : State, u.car d = u.car c := fun u => by simp only [State.car_eq, hd]
    rw [e, e, State.car_modCar_self t c f hc, hf]
  · rw [State.car_modCar_ne t c d f hd]

theorem modPort (h : t.RestsLike s) (c : Nat) (f : Port → Port) (hc : c - 1 < t.cars.length) :
    (t.modPort c f).RestsLike s := h.modCar c _ hc fun _ => rfl

theorem takeStore (h : t.RestsLike s) (f : Nat) : (t.takeStore f).RestsLike s := by
  unfold State.takeStore
  dsimp only
  split
  · exact h.answer ..
  · split
    · exact h.answer ..
    · split
      · exact h.answer ..
      · exact h.modPau ..

end State.RestsLike

/-- A command whose effect rests like the state it found is its effect. -/
theorem State.run_eq_of_restsLike {f : State → State} {s u : State} (hs : s.HaltPending) (he : f s.fresh = u)
    (hr : u.RestsLike s.fresh) : s.run f = u := by
  subst he
  exact State.run_eq f s hr.agenda hr.skip (hr.haltPending (State.fresh_haltPending hs))

/-! ### Put-away records -/

/-- A configured carousel's put-away records stand in a lawful state's list. -/
theorem State.Lawful.pau_lt {s : State} (h : s.Lawful) {c : Nat} (hc : s.configured c = true) :
    c - 1 < s.pau.length := by
  have hpau := h.shaped.pau
  have hcars := h.shaped.cars
  have hlt := h.car_lt hc
  omega

theorem State.Lawful.carouselOk {s : State} (h : s.Lawful) {c : Nat} (hc : s.configured c = true) :
    carouselOk c = true := by
  have hcount := h.shaped.count
  simp only [State.configured, Sys2Proof.carouselOk, Bool.and_eq_true, decide_eq_true_eq] at *
  omega

/-- Write carousel `c`'s put-away records. -/
def State.setPau (s : State) (c : Nat) (p : Pau) : State := { s with pau := s.pau.set (c - 1) p }

/-- A change of the records is a write of what it makes of those that stand. -/
theorem State.modPau_eq_setPau (s : State) (c : Nat) (f : Pau → Pau) : s.modPau c f = s.setPau c (f (s.pauOf c)) := rfl

theorem State.pauOf_setPau (s : State) (c : Nat) (p : Pau) (h : c - 1 < s.pau.length) : (s.setPau c p).pauOf c = p := by
  simp [State.setPau, State.pauOf, h]

theorem State.modPau_setPau (s : State) (c : Nat) (p : Pau) (f : Pau → Pau) (h : c - 1 < s.pau.length) :
    (s.setPau c p).modPau c f = s.setPau c (f p) := by
  rw [State.modPau_eq_setPau, State.pauOf_setPau s c p h]
  simp [State.setPau]

theorem State.modStore_setPau (s : State) (c : Nat) (p : Pau) (f : Store → Store) (h : c - 1 < s.pau.length) :
    (s.setPau c p).modStore c f = s.setPau c { p with store := p.store.map f } := State.modPau_setPau s c p _ h

@[simp] theorem State.setPau_car (s : State) (c : Nat) (p : Pau) (d : Nat) : (s.setPau c p).car d = s.car d := rfl

@[simp] theorem State.setPau_inService (s : State) (c : Nat) (p : Pau) (d : Nat) :
    (s.setPau c p).inService d = s.inService d := rfl

theorem State.RestsLike.setPau {s t : State} (h : t.RestsLike s) (c : Nat) (p : Pau) : (t.setPau c p).RestsLike s :=
  h.modPau c fun _ => p

@[simp] theorem State.answer_infeed (s : State) (f code flags : Nat) (d : List Byte) (c : Nat) :
    (s.answer f code flags d).infeed c = s.infeed c := rfl

/-- A frame's return and a change of the put-away records touch different blocks. -/
theorem State.answer_modPau (s : State) (f code flags : Nat) (d : List Byte) (c : Nat) (g : Pau → Pau) :
    (s.answer f code flags d).modPau c g = (s.modPau c g).answer f code flags d := rfl

theorem State.answer_reject (s : State) (f code flags : Nat) (d : List Byte) (c : Nat) :
    (s.answer f code flags d).reject c = (s.reject c).answer f code flags d := rfl

theorem flagBits_singleton (b : Bool) : flagBits [b] = b.toNat := rfl

@[simp] theorem State.modPau_infeed (s : State) (d : Nat) (f : Pau → Pau) (c : Nat) :
    (s.modPau d f).infeed c = s.infeed c := rfl

/-- The return of a store (R79): its place is emptied, a tyre on the infeed is sent back, and its frame answers with its
counts. -/
theorem State.returnStore_eq {s : State} {c : Nat} {st : Store} (r : StoreResult) (h : (s.pauOf c).store = some st) :
    s.returnStore c r =
      ({ s.setPau c { s.pauOf c with store := none, arrival := none, requestHeld := false } with
        outs := if s.infeed c then s.outs ++ [.reject c] else s.outs } : State).answer st.frame r.code st.overrun.toNat
          st.contents := by
  unfold State.returnStore
  cases hi : s.infeed c
  · simp only [h, State.answer_modPau, flagBits_singleton, State.answer_infeed, State.modPau_infeed, hi,
      Bool.false_eq_true, if_false]
    rfl
  · simp only [h, State.answer_modPau, State.answer_reject, flagBits_singleton, State.answer_infeed,
      State.modPau_infeed, hi, if_true]
    rfl

/-! ### The STORE docket (R66) -/

/-- An accepted docket goes to its owner (R166). -/
theorem State.dispatchKind_accepted {s : State} {f : Nat} {k : DocketKind} (owner : State → Nat → State)
    (h : s.Accepts f k) : s.dispatchKind k owner = owner (s.takeFrame f) f := by
  obtain ⟨⟨hhead, hcheck, hkind⟩, hpass⟩ := h
  obtain ⟨rest, hintake⟩ : ∃ rest, s.xu.intake = f :: rest := List.head?_eq_some_iff.mp hhead
  unfold State.dispatchKind State.dispatch
  simp [hintake, hcheck, hkind, hpass]

/-- An accepted STORE is the Put-away Unit's taking of it. -/
theorem exec_store {s : State} {f : Nat} (hs : s.Lawful) (h : s.Accepts f .store) :
    exec .store s = .next ((s.fresh.takeFrame f).takeStore f) :=
  congrArg Host.Outcome.next (State.run_eq_of_restsLike hs.rested.halting
    (State.dispatchKind_accepted (s := s.fresh) State.takeStore h)
    (((State.RestsLike.refl _).takeFrame f).takeStore f))

/-- The taking of a STORE, its three refusals spelt as the statement does. -/
theorem State.takeStore_eq (s : State) (f : Nat) :
    let c := s.xu.frameNat f 8 1
    let l := labelAt s.xu f 10
    s.takeStore f =
      if (s.pauOf c).store.isSome then s.answer f 0x21 0 []
      else if (s.stb.article l.article).defined = false then s.answer f 0x29 0 []
      else if s.inService c = false then s.answer f 0x25 0 []
      else { s with
        pau := s.pau.set (c - 1) { s.pauOf c with
          store := some ⟨l, s.xu.frameNat f 9 1, 0, 0, 0, none, false, .waitingArrival, f⟩, arrival := some 0 } } := by
  unfold State.takeStore
  simp only [Bool.not_eq_true']
  rfl

/-! ### The commands of the infeed -/

/-- A line event of a configured carousel sets the level and is read. -/
theorem State.onLine_configured {s : State} {c : Nat} {level f : State → State} (hok : carouselOk c = true)
    (hc : (level s).configured c = true) : s.onLine c level f = f (level s) := by
  unfold State.onLine State.onCarousel State.onConfigured
  exact (if_pos hok).trans (if_pos hc)

theorem exec_infeedPresentRise {s u : State} {c : Nat} (hs : s.Lawful) (hc : s.configured c = true)
    (he : (s.fresh.setInfeed c true).infeedRise c = u) (hr : u.RestsLike s.fresh) :
    exec (.infeedPresentRise c) s = .next u :=
  congrArg Host.Outcome.next (State.run_eq_of_restsLike hs.rested.halting
    ((State.onLine_configured (hs.carouselOk hc) hc).trans he) hr)

theorem exec_infeedPresentFall {s u : State} {c : Nat} (hs : s.Lawful) (hc : s.configured c = true)
    (he : (s.fresh.setInfeed c false).infeedFallen c = u) (hr : u.RestsLike s.fresh) :
    exec (.infeedPresentFall c) s = .next u :=
  congrArg Host.Outcome.next (State.run_eq_of_restsLike hs.rested.halting
    ((State.onLine_configured (hs.carouselOk hc) hc).trans he) hr)

theorem exec_arrivalTimerExpiry {s u : State} {c : Nat} (hs : s.Lawful) (hc : s.configured c = true)
    (he : s.fresh.arrivalExpired c = u) (hr : u.RestsLike s.fresh) :
    exec (.arrivalTimerExpiry c) s = .next u :=
  congrArg Host.Outcome.next (State.run_eq_of_restsLike hs.rested.halting ((if_pos hc).trans he) hr)

/-! ### Arrivals (R68, R69, R72) -/

section Arrivals

variable {t : State} {c : Nat} {st : Store}

/-- A tyre given back is no arrival (R68). -/
theorem State.infeedRise_returned (h : (t.pauOf c).returnPending = true) :
    t.infeedRise c = t.setPau c { t.pauOf c with occupied := true } := by
  unfold State.infeedRise
  exact if_pos h

/-- An unannounced arrival (R69). -/
theorem State.infeedRise_unannounced (h : (t.pauOf c).returnPending = false) (hnone : (t.pauOf c).store = none) :
    t.infeedRise c = ((t.setPau c { t.pauOf c with occupied := true }).reject c).capture (c - 1) kindUnannounced
      [byte c, byte t.xu.mode.code] := by
  unfold State.infeedRise
  simp only [h, hnone, State.modPau_eq_setPau]
  rfl

theorem State.infeedRise_ready (h : (t.pauOf c).returnPending = false) (hst : (t.pauOf c).store = some st)
    (hw : st.state = .waitingArrival) (hempty : (t.pauOf c).occupied = false) :
    t.infeedRise c = (t.setPau c { t.pauOf c with occupied := true }).acceptArrival c := by
  have hready : (t.pauOf c).ready = true := by simp [Pau.ready, hst, hw, hempty]
  unfold State.infeedRise
  simp [h, hst, hready, State.modPau_eq_setPau]

theorem State.infeedRise_overrun (h : (t.pauOf c).returnPending = false) (hst : (t.pauOf c).store = some st)
    (hw : st.state ≠ .waitingArrival) :
    t.infeedRise c = (t.setPau c { t.pauOf c with occupied := true }).overrun c st := by
  have hready : (t.pauOf c).ready = false := by simp [Pau.ready, hst, hw]
  unfold State.infeedRise
  simp [h, hst, hready, State.modPau_eq_setPau]

/-- An accepted arrival: the store is PLACING, its arrival timer stopped, and asks for a placement visit (R68, R72). -/
theorem State.acceptArrival_setPau {p : Pau} (hlt : c - 1 < t.pau.length) (hst : p.store = some st) :
    (t.setPau c p).acceptArrival c =
      (t.setPau c { p with store := some { st with state := .placing }, arrival := none }).requestPlacement c := by
  unfold State.acceptArrival
  simp only [State.modPau_setPau _ _ _ _ hlt, State.modStore_setPau _ _ _ _ hlt, hst, Option.map_some]

/-- While a placement visit waits the request is held (R72). -/
theorem State.requestPlacement_held {p : Pau} (hlt : c - 1 < t.pau.length) (hin : t.inService c = true)
    (hv : (t.car c).visits.any (fun v => v.kind == .placement) = true) :
    (t.setPau c p).requestPlacement c = t.setPau c { p with requestHeld := true } := by
  unfold State.requestPlacement
  rw [State.setPau_inService, State.setPau_car, if_neg (by simp [hin]), if_pos hv, State.modPau_setPau _ _ _ _ hlt]

/-- A carousel in VISITING is not woken (R38). -/
theorem State.wake_visiting (h : (t.car c).state = .visiting) : t.wake c = t := by
  unfold State.wake
  simp [h]

/-- A visit that joins a carousel in VISITING waits at the tail of its list. -/
theorem State.joinVisit_visiting (v : Visit) (hlt : c - 1 < t.cars.length) (hstate : (t.car c).state = .visiting) :
    t.joinVisit c v = { t with serial := t.serial + 1 }.modCar c fun x => { x with visits := x.visits ++ [v] } :=
  State.wake_visiting
    ((congrArg Car.state (State.car_modCar_self { t with serial := t.serial + 1 } c _ hlt)).trans hstate)

/-- With no placement visit waiting its own joins (R72). -/
theorem State.requestPlacement_joins {p : Pau} (hlt : c - 1 < t.pau.length) (hcar : c - 1 < t.cars.length)
    (hin : t.inService c = true) (hv : (t.car c).visits.any (fun v => v.kind == .placement) = false)
    (hstate : (t.car c).state = .visiting) :
    (t.setPau c p).requestPlacement c =
      { t.setPau c { p with requestHeld := false } with serial := t.serial + 1 }.modCar c fun x => { x with
        visits := x.visits ++
          [(⟨t.serial, .placement, none, t.xu.uptime, [], none, [], [.intake], 0, []⟩ : Visit)] } := by
  unfold State.requestPlacement
  rw [State.setPau_inService, State.setPau_car, if_neg (by simp [hin]), if_neg (ne_true_of_eq_false hv),
    State.modPau_setPau _ _ _ _ hlt]
  exact State.joinVisit_visiting (t := t.setPau c { p with requestHeld := false }) _ hcar hstate

/-- The details of an overrun's notice (R69, R183), as `State.overrun` captures them. -/
def overrunDetails (c : Nat) (x : Store) : List Byte :=
  byte c :: x.label.bytes ++ [byte x.declared, byte x.stored, byte x.state.code]

theorem overrunDetails_of_code (c : Nat) {x : Store} {n : Nat} (h : x.state.code = n) :
    overrunDetails c x = [byte c] ++ x.label.bytes ++ [byte x.declared, byte x.stored, byte n] := by
  subst h; rfl

/-- The first cause decides the result of a store in PLACING (R79). -/
theorem State.endStore_setPau {p : Pau} (r : StoreResult) (hlt : c - 1 < t.pau.length) (hst : p.store = some st)
    (hp : st.state = .placing) :
    (t.setPau c p).endStore c r = t.setPau c { p with store := some { st with state := .ending r } } := by
  unfold State.endStore
  rw [State.modStore_setPau _ _ _ _ hlt, hst, Option.map_some, if_pos (by simp [hp])]

/-- A notice leaves the store's end as it is. -/
theorem State.endStore_capture (s : State) (c r kind : Nat) (d : List Byte) (result : StoreResult) :
    (s.capture r kind d).endStore c result = (s.endStore c result).capture r kind d := rfl

/-- An overrun of a store in PLACING, its placement visit in the list: the store ends (R69, R79). -/
theorem State.overrun_placing {p : Pau} (hlt : c - 1 < t.pau.length) (hst : p.store = some st)
    (hp : st.state = .placing) (hin : (t.car c).placementIn = true) :
    (t.setPau c p).overrun c st =
      (t.setPau c { p with store := some { st with overrun := true, state := .ending .overrun } }).capture (c - 1)
        kindOverrun (overrunDetails c st) := by
  have hcar : ∀ q, ((t.setPau c q).capture (c - 1) kindOverrun (overrunDetails c st)).car c = t.car c := fun _ => rfl
  unfold State.overrun
  rw [State.modStore_setPau _ _ _ _ hlt, hst, Option.map_some, ← overrunDetails, hp]
  simp only [hcar, hin, Bool.true_or, if_true]
  rw [State.endStore_capture, State.endStore_setPau .overrun hlt rfl rfl]

/-- An overrun of a store in ENDING is flagged and captured, and the store ends as it would (R69). -/
theorem State.overrun_ending {p : Pau} {r : StoreResult} (hlt : c - 1 < t.pau.length) (hst : p.store = some st)
    (hend : st.state = .ending r) :
    (t.setPau c p).overrun c st =
      (t.setPau c { p with store := some { st with overrun := true } }).capture (c - 1) kindOverrun
        (overrunDetails c st) := by
  unfold State.overrun
  rw [State.modStore_setPau _ _ _ _ hlt, hst, Option.map_some, ← overrunDetails, hend]

end Arrivals

/-! ### Falls of infeed present (R50, R70) and the arrival timer (R71) -/

section Falls

variable {t : State} {c : Nat} {st : Store}

/-- A fall with the placement visit still in the list, no store in PLACING, or a request held: the infeed is EMPTY. -/
theorem State.infeedFall_empty (hlt : c - 1 < t.pau.length)
    (h : (t.pauOf c).store = none ∨ (t.car c).placementIn = true ∨ (t.pauOf c).requestHeld = true ∨
      ∃ st, (t.pauOf c).store = some st ∧ st.state ≠ .placing) :
    t.infeedFall c = t.setPau c { t.pauOf c with occupied := false, returnPending := false } := by
  unfold State.infeedFall State.nextTyre State.storeCleared
  rw [State.modPau_eq_setPau, State.pauOf_setPau _ _ _ hlt, State.setPau_car]
  rcases h with h | h | h | ⟨st, h, hne⟩
  · simp [h]
  · split
    · simp [h]
    · rfl
  · split
    · simp [h]
    · rfl
  · simp [h, hne]

/-- A fall with the placement visit ended: the store waits for its next tyre, its arrival timer from 0 (R70, R71). -/
theorem State.infeedFall_next (hlt : c - 1 < t.pau.length) (hst : (t.pauOf c).store = some st)
    (hp : st.state = .placing) (hin : (t.car c).placementIn = false) (hr : (t.pauOf c).requestHeld = false) :
    t.infeedFall c = t.setPau c { t.pauOf c with
      store := some { st with state := .waitingArrival }, arrival := some 0, occupied := false
      returnPending := false } := by
  unfold State.infeedFall State.nextTyre State.storeCleared
  rw [State.modPau_eq_setPau, State.pauOf_setPau _ _ _ hlt, State.setPau_car]
  simp [hst, hp, hin, hr, State.awaitArrival, State.modStore_setPau _ _ _ _ hlt, State.modPau_setPau _ _ _ _ hlt]

theorem State.infeedFree_idle (h : (t.car c).port.phase ≠ .waitInfeed) : t.infeedFree c = t := by
  unfold State.infeedFree
  simp [h]

theorem State.infeedFree_waiting (h : (t.car c).port.phase = .waitInfeed) (hl : (t.car c).lockCause = false) :
    t.infeedFree c = t.issueIn c (.setting .normal) (.setDown .infeed) := by
  unfold State.infeedFree
  simp [h, hl]

/-- Issuing a set-down on the infeed with no lock cause: a return is pending (R43, R67). -/
theorem State.issueIn_infeed (ph : Phase) (hcar : c - 1 < t.cars.length) (hl : (t.car c).lockCause = false) :
    t.issueIn c ph (.setDown .infeed) =
      ((t.modPau c fun p => { p with returnPending := true }).modPort c fun p => { p with
        phase := ph, cmd := some (.setDown .infeed), held := none, actionLimit := some 0 }).emit
          (.gripper c (.setDown .infeed)) := by
  have hlock : ((t.modPort c fun p => { p with phase := ph }).car c).lockCause = false := by
    unfold State.modPort
    rw [State.car_modCar_self t c _ hcar]
    exact hl
  unfold State.issueIn State.issue
  rw [if_neg (by simp [hlock]), if_pos (by decide)]
  unfold State.modPort
  rw [State.modCar_modCar t c _ _ hcar]
  rfl

/-- A fall while no PLACE waits for the infeed is the Put-away Unit's alone. -/
theorem State.infeedFallen_idle {p : Pau} (hfall : t.infeedFall c = t.setPau c p)
    (hport : (t.car c).port.phase ≠ .waitInfeed) : t.infeedFallen c = t.setPau c p := by
  unfold State.infeedFallen
  rw [hfall, State.infeedFree_idle (t := t.setPau c p) hport]

/-- A fall while a PLACE waits for the infeed: its SET_DOWN is issued, and a return is pending (R50). -/
theorem State.infeedFallen_place {p : Pau} (hlt : c - 1 < t.pau.length) (hcar : c - 1 < t.cars.length)
    (hfall : t.infeedFall c = t.setPau c p) (hport : (t.car c).port.phase = .waitInfeed)
    (hl : (t.car c).lockCause = false) :
    t.infeedFallen c =
      ((t.setPau c { p with returnPending := true }).modPort c fun x => { x with
        phase := .setting .normal, cmd := some (.setDown .infeed), held := none, actionLimit := some 0 }).emit
          (.gripper c (.setDown .infeed)) := by
  unfold State.infeedFallen
  rw [hfall, State.infeedFree_waiting (t := t.setPau c p) hport hl, State.issueIn_infeed (t := t.setPau c p) _ hcar hl,
    State.modPau_setPau t c p _ hlt]

/-- An expiry while no arrival timer runs changes nothing (log 3). -/
theorem State.arrivalExpired_stopped (h : (t.pauOf c).arrival = none) : t.arrivalExpired c = t := by
  unfold State.arrivalExpired
  simp [h]

theorem State.arrivalExpired_running (h : (t.pauOf c).arrival ≠ none) :
    t.arrivalExpired c = t.returnStore c .infeedTimeout := by
  unfold State.arrivalExpired
  exact if_pos (Option.isSome_iff_ne_none.mpr h)

end Falls

end Sys2Proof.Machine

open Sys2Proof Sys2Proof.Machine

/-! ### The obligations -/

/-- Settles O49: the six conditions, and each capacity that is full rules the bay out. -/
theorem slotQualifies : Obligations.SlotQualifies := by
  unfold Obligations.SlotQualifies
  intro s c b l
  dsimp only
  have hiff := s.qualifies_iff c b l
  rw [s.carrierLoad_eq c (b / 2)] at hiff
  refine ⟨?_, fun hfull => ?_⟩
  · rw [forall_label_iff]
    exact hiff
  · rw [← Bool.not_eq_true, hiff]
    rintro ⟨-, -, hcount, hheight, hload, -⟩
    omega

/-- Settles O50: slotting takes a least of the qualifying bays by `slotKeys`, which are the four keys in turn. -/
theorem slotChoiceByFourKeys : Obligations.SlotChoiceByFourKeys := by
  unfold Obligations.SlotChoiceByFourKeys
  intro s c l o ho x left right mass imbalance steps empty
  refine ⟨s.slot_eq_none_iff c l, fun b hb => ?_⟩
  obtain ⟨⟨hlt, hq⟩, hleast⟩ := State.slot_least hb
  refine ⟨hlt, hq, fun b' hlt' hne hq' => ?_⟩
  have hkeys := (s.slotKeys_le_iff c l hne).mp (hleast b' hlt' hq')
  simp only [CarStock.imbalanceWith_eq, ho, Option.getD_some] at hkeys
  exact hkeys

/-- Settles O20: the dispatcher hands the frame to the Put-away Unit, whose taking winds up with nothing left to do. -/
theorem storeTaken : Obligations.StoreTaken := by
  unfold Obligations.StoreTaken
  intro s f hs h c l
  exact (exec_store hs h).trans (congrArg _ ((s.fresh.takeFrame f).takeStore_eq f))

/-- Settles O51: the cases of `State.infeedRise`, each run on the state whose infeed present line has risen. -/
theorem infeedArrivals : Obligations.InfeedArrivals := by
  unfold Obligations.InfeedArrivals
  intro s c hs hc x p t
  have hpau : c - 1 < t.pau.length := hs.pau_lt hc
  have hcar : c - 1 < t.cars.length := hs.car_lt hc
  have hrest : t.RestsLike s.fresh := (State.RestsLike.refl _).setInfeed c true
  refine ⟨fun hret => ?_, fun hret hnone => ?_, fun st hret hst => ⟨fun hw hempty hin hvis => ?_, fun hp hplace => ?_,
    fun r hend => ?_⟩⟩
  · exact exec_infeedPresentRise hs hc (State.infeedRise_returned (t := t) hret) (hrest.setPau ..)
  · refine (exec_infeedPresentRise hs hc (State.infeedRise_unannounced (t := t) hret hnone)
      (((hrest.setPau ..).emit _).capture ..)).trans ?_
    show Host.Outcome.next (((t.setPau c { p with occupied := true }).reject c).capture (c - 1) kindUnannounced
      [byte c, byte s.xu.mode.code]) = _
    cases s.xu.mode <;> rfl
  · have hrise := (State.infeedRise_ready (t := t) hret hst hw hempty).trans (State.acceptArrival_setPau hpau hst)
    refine ⟨fun hv => ?_, fun hv => ?_⟩
    · exact exec_infeedPresentRise hs hc (hrise.trans (State.requestPlacement_held hpau hin hv)) (hrest.setPau ..)
    · have hjoin := hrise.trans (State.requestPlacement_joins hpau hcar hin hv hvis)
      have hstep := exec_infeedPresentRise hs hc hjoin ((hrest.setPau ..).nextSerial.modCar c _ hcar fun _ => rfl)
      exact hstep
  · have hrise := (State.infeedRise_overrun (t := t) hret hst (by simp [hp])).trans
      (State.overrun_placing hpau hst hp hplace)
    rw [overrunDetails_of_code c (show st.state.code = 1 by rw [hp]; rfl)] at hrise
    exact (exec_infeedPresentRise hs hc hrise ((hrest.setPau ..).capture ..)).trans rfl
  · have hrise := (State.infeedRise_overrun (t := t) hret hst (by simp [hend])).trans
      (State.overrun_ending hpau hst hend)
    rw [overrunDetails_of_code c (show st.state.code = 2 by rw [hend]; rfl)] at hrise
    exact (exec_infeedPresentRise hs hc hrise ((hrest.setPau ..).capture ..)).trans rfl

/-- Settles O52: the cases of `State.infeedFallen`, each run on the state whose infeed present line has fallen, and the
return of a store whose arrival timer has run out. -/
theorem infeedFallsAndTimesOut : Obligations.InfeedFallsAndTimesOut := by
  unfold Obligations.InfeedFallsAndTimesOut
  intro s c hs hc x p t
  have hpau : c - 1 < t.pau.length := hs.pau_lt hc
  have hcar : c - 1 < t.cars.length := hs.car_lt hc
  have hrest : t.RestsLike s.fresh := (State.RestsLike.refl _).setInfeed c false
  refine ⟨fun hport hstays => ?_, fun st hport hst hp hin hr => ?_, fun hport hl hstays => ?_, fun hnone => ?_,
    fun st harr hst => ?_⟩
  · have hfall := State.infeedFall_empty (t := t) hpau hstays
    exact exec_infeedPresentFall hs hc (State.infeedFallen_idle hfall hport) (hrest.setPau ..)
  · have hfall := State.infeedFall_next (t := t) hpau hst hp hin hr
    exact exec_infeedPresentFall hs hc (State.infeedFallen_idle hfall hport) (hrest.setPau ..)
  · have hfall := State.infeedFall_empty (t := t) hpau (hstays.imp_right .inl)
    have hstep := exec_infeedPresentFall hs hc (State.infeedFallen_place hpau hcar hfall hport hl)
      (((hrest.setPau ..).modPort c _ hcar).emit _)
    exact hstep
  · exact exec_arrivalTimerExpiry hs hc (State.arrivalExpired_stopped hnone) (.refl _)
  · have hstep := exec_arrivalTimerExpiry hs hc
      ((State.arrivalExpired_running (t := s.fresh) harr).trans (State.returnStore_eq (s := s.fresh) .infeedTimeout hst))
      ((((State.RestsLike.refl _).setPau ..).withOuts _).answer ..)
    exact hstep
end

section
/-! The merge, belt and sorter family: what the arbiter takes and which events test the merge window (R120 to R122), the
strays at the sorter (R126, R128), and the emergency stop through the carousels and the belt (R129, R158). -/

namespace Sys2Proof.Machine

/-! ### A command that leaves no work over

`s.Rested` is what winding a command up asks of a state; every update of this family's meanings keeps it. -/

/-- A command whose effect leaves no work over is its effect. -/
theorem State.run_eq_of_rested {f : State → State} {s u : State} (he : f s.fresh = u) (hu : u.Rested) :
    s.run f = u := by
  subst he
  exact State.run_eq f s hu.agenda hu.skip hu.halting

/-- Make one change at every carousel. -/
def State.mapCars (s : State) (f : Car → Car) : State := { s with cars := s.cars.map f }

theorem State.car_mapCars (s : State) (f : Car → Car) {c : Nat} (hc : c - 1 < s.cars.length) :
    (s.mapCars f).car c = f (s.car c) := by
  simp [State.mapCars, State.car, hc]

theorem levelsOk_of_length {levels : List Bool} (h : levels.length = 12) : levelsOk levels = true := by
  simp [levelsOk, h, Config.carousels]

namespace State.Rested

variable {s : State}

theorem fresh (h : s.HaltPending) : s.fresh.Rested := ⟨rfl, rfl, State.fresh_haltPending h⟩

theorem setHead (h : s.Rested) (c : Nat) (v : Bool) : (s.setHead c v).Rested := ⟨h.agenda, h.skip, h.halting⟩

theorem setHeads (h : s.Rested) (levels : List Bool) : (s.setHeads levels).Rested := ⟨h.agenda, h.skip, h.halting⟩

theorem setMergeClear (h : s.Rested) (v : Bool) : (s.setMergeClear v).Rested := ⟨h.agenda, h.skip, h.halting⟩

theorem setEstop (h : s.Rested) (v : Bool) : (s.setEstop v).Rested := ⟨h.agenda, h.skip, h.halting⟩

theorem setLoads (h : s.Rested) (levels : List Bool) : (s.setLoads levels).Rested := ⟨h.agenda, h.skip, h.halting⟩

theorem emit (h : s.Rested) (o : Out) : (s.emit o).Rested := ⟨h.agenda, h.skip, h.halting⟩

theorem capture (h : s.Rested) (r kind : Nat) (d : List Byte) : (s.capture r kind d).Rested :=
  ⟨h.agenda, h.skip, fun hm => h.halting ((Xu.capture_mode ..).symm.trans hm)⟩

theorem estopEvent (h : s.Rested) : s.estopEvent.Rested := ⟨h.agenda, h.skip, h.halting⟩

/-- A change of the belt's record that leaves the spurs and the tracking list. -/
theorem modBlc (h : s.Rested) (f : Blc → Blc) (hspurs : (f s.blc).spurs = s.blc.spurs)
    (htrack : (f s.blc).tracking = s.blc.tracking) : (s.modBlc f).Rested := by
  refine ⟨h.agenda, h.skip, State.haltPending_congr h.halting rfl ?_⟩
  unfold State.drained
  rw [State.modBlc_blc, hspurs, htrack]
  rfl

/-- A change at every carousel that leaves the visits in progress. -/
theorem mapCars (h : s.Rested) (f : Car → Car) (hf : ∀ x, (f x).current = x.current) : (s.mapCars f).Rested := by
  have hcur : ∀ d, ((s.mapCars f).car d).current = (s.car d).current := by
    intro d
    by_cases hd : d - 1 < s.cars.length
    · rw [State.car_mapCars s f hd, hf]
    · simp [State.mapCars, State.car, hd]
  refine ⟨h.agenda, h.skip, State.haltPending_congr h.halting rfl ?_⟩
  unfold State.drained
  simp only [hcur]
  rfl

end State.Rested

/-! ### The spur-room event (R47, R120) -/

section SpurRoom

variable {s : State} {c : Nat} {seen : Bool}

theorem State.spurRoom_other (h : ∀ seen, (s.car c).port.phase ≠ .waitRoom seen) : s.spurRoom c = s := by
  unfold State.spurRoom
  split
  case h_1 seen hp => exact absurd hp (h seen)
  case h_2 => rfl

theorem State.spurRoom_locked (h : (s.car c).port.phase = .waitRoom seen) (hl : (s.car c).lockCause = true) :
    s.spurRoom c = s.modPort c fun p => { p with phase := .waitRoom true } := by
  unfold State.spurRoom
  rw [h]
  exact if_pos hl

/-- A LIFT that waits for room sets its tyre down on the spur. -/
theorem State.spurRoom_issues (hc : c - 1 < s.cars.length) (h : (s.car c).port.phase = .waitRoom seen)
    (hl : (s.car c).lockCause = false) :
    s.spurRoom c = (s.modPort c fun p => { p with
      phase := .setting .normal, cmd := some (.setDown .spur), held := none, actionLimit := some 0 }).emit
        (.gripper c (.setDown .spur)) := by
  have hlock : ((s.modPort c fun p => { p with phase := .setting .normal }).car c).lockCause = false := by
    unfold State.modPort
    rw [State.car_modCar_self s c _ hc]
    exact hl
  unfold State.spurRoom State.issueIn State.issue
  rw [h]
  simp only [hl, hlock, Bool.false_eq_true, if_false,
    if_neg (show ¬ (GripCmd.setDown .spur == .setDown .infeed) by decide)]
  unfold State.modPort
  rw [State.modCar_modCar s c _ _ hc]

/-- The spur-room event owes no pass and leaves the belt as it is. -/
theorem State.spurRoom_keeps (s : State) (c : Nat) :
    (s.spurRoom c).agenda = s.agenda ∧ (s.spurRoom c).skip = s.skip ∧ (s.spurRoom c).blc = s.blc := by
  unfold State.spurRoom State.issueIn State.issue
  split
  · split
    · exact ⟨rfl, rfl, rfl⟩
    · split <;> exact ⟨rfl, rfl, rfl⟩
  · exact ⟨rfl, rfl, rfl⟩

end SpurRoom

/-! ### Merging (R121, R122) -/

section Merging

variable {s : State} {c : Nat}

/-- The five conditions of R121. -/
theorem State.mergeWindow_iff (s : State) :
    s.mergeWindow = true ↔ s.blc.running = true ∧ s.blc.spent = false ∧ s.lines.mergeClear = true ∧
      s.blc.tracking.length < 48 ∧ s.requesters ≠ [] := by
  simp only [State.mergeWindow, Bool.and_eq_true, Bool.not_eq_true', decide_eq_true_eq, List.isEmpty_eq_false_iff,
    and_assoc]
  exact Iff.rfl

/-- A requesting spur is a configured carousel's and has a head record. -/
theorem State.mem_requesters (h : c ∈ s.requesters) :
    s.configured c = true ∧ ∃ r rest, s.spur c = r :: rest := by
  obtain ⟨hmem, hreq⟩ := List.mem_filter.mp h
  have hrange := List.mem_range'_1.mp hmem
  refine ⟨by simp [State.configured]; omega, ?_⟩
  cases hspur : s.spur c with
  | nil => simp [State.requester, hspur] at hreq
  | cons r rest => exact ⟨r, rest, rfl⟩

/-- Carousel `c`'s head record has gone onto the belt (R122). -/
def State.taken (s : State) (c : Nat) (r : SpurRec) (rest : List SpurRec) : State :=
  (s.emit (.mergeGate c)).modBlc fun b => { b.setSpur c rest with
    tracking := b.tracking ++ [⟨r, c, 0⟩], spent := true, guard := some 0, guardStayed := true }

theorem State.merge_cons {r : SpurRec} {rest : List SpurRec} (h : s.spur c = r :: rest) :
    s.merge c = (s.taken c r rest).spurRoom c := by
  unfold State.merge
  rw [h]
  rfl

/-- Within the window a requesting spur merges, one that no requester goes before. -/
theorem State.mergeTest_window (h : s.mergeWindow = true) :
    ∃ c r rest, c ∈ s.requesters ∧ s.spur c = r :: rest ∧
      (∀ d ∈ s.requesters, keysLe (s.mergeKeys c) (s.mergeKeys d) = true) ∧
      s.mergeTest = (s.taken c r rest).spurRoom c := by
  obtain ⟨-, -, -, -, hne⟩ := s.mergeWindow_iff.mp h
  obtain ⟨c, hfirst⟩ := Option.ne_none_iff_exists'.mp (mt (firstBy_eq_none_iff s.mergeKeys s.requesters).mp hne)
  obtain ⟨hmem, hleast⟩ := firstBy_least hfirst
  obtain ⟨-, r, rest, hspur⟩ := State.mem_requesters hmem
  refine ⟨c, r, rest, hmem, hspur, hleast, ?_⟩
  unfold State.mergeTest
  rw [if_pos h, hfirst]
  exact State.merge_cons hspur

theorem State.mergeKeys_cons {q : SpurRec} {l : List SpurRec} (h : s.spur c = q :: l) :
    s.mergeKeys c = [q.priority, (s.order q.slot).elim 0 (·.outstanding), c] := by
  unfold State.mergeKeys
  rw [h]

/-- Two different spurs with head records: one goes before the other by the three keys of R122 in turn. -/
theorem State.mergeKeys_le_iff {d : Nat} {r q : SpurRec} {rest l : List SpurRec} (hc : s.spur c = r :: rest)
    (hd : s.spur d = q :: l) (hne : d ≠ c) :
    keysLe (s.mergeKeys c) (s.mergeKeys d) = true ↔
      r.priority < q.priority ∨ (r.priority = q.priority ∧
        ((s.order r.slot).elim 0 (·.outstanding) < (s.order q.slot).elim 0 (·.outstanding) ∨
          ((s.order r.slot).elim 0 (·.outstanding) = (s.order q.slot).elim 0 (·.outstanding) ∧ c < d))) := by
  rw [State.mergeKeys_cons hc, State.mergeKeys_cons hd]
  simp [keysLe_cons_iff, hne.symm]

/-- After a merge the tracking list holds a record, so HALTING is not complete. -/
theorem State.Rested.mergeTest (h : s.Rested) : s.mergeTest.Rested := by
  cases hw : s.mergeWindow with
  | false => rwa [s.mergeTest_eq hw]
  | true =>
    obtain ⟨c, r, rest, -, -, -, htest⟩ := State.mergeTest_window hw
    obtain ⟨hagenda, hskip, hblc⟩ := (s.taken c r rest).spurRoom_keeps c
    rw [htest]
    refine ⟨hagenda.trans h.agenda, hskip.trans h.skip, fun _ => ?_⟩
    unfold State.drained
    rw [hblc]
    simp [State.taken]

/-- The test after the merge guard's expiry: with the line active since the merge the latch opens (R121). -/
theorem State.guardExpired_stayed (hrun : s.blc.running = true) (hg : s.blc.guard ≠ none)
    (hstay : s.blc.guardStayed = true) :
    s.guardExpired = (s.modBlc fun b => { b with guard := none, spent := false }).mergeTest := by
  unfold State.guardExpired
  simp [hrun, Option.isSome_iff_ne_none.mpr hg, hstay]

theorem State.guardExpired_fallen (hrun : s.blc.running = true) (hg : s.blc.guard ≠ none)
    (hstay : s.blc.guardStayed = false) : s.guardExpired = s.modBlc fun b => { b with guard := none } := by
  unfold State.guardExpired
  simp [hrun, Option.isSome_iff_ne_none.mpr hg, hstay]

/-- An expiry while no guard runs or the belt is STOPPED changes nothing (log 3). -/
theorem State.guardExpired_idle (h : s.blc.running = false ∨ s.blc.guard = none) : s.guardExpired = s := by
  unfold State.guardExpired
  rcases h with h | h <;> simp [h]

/-! #### The events that test the window (R120, R121) -/

theorem exec_spurHeadRise (hs : s.Lawful) (hc : s.configured c = true) :
    exec (.spurHeadRise c) s = .next (s.fresh.setHead c true).mergeTest :=
  congrArg Host.Outcome.next (State.run_eq_of_rested
    (State.onLine_configured (s := s.fresh) (level := fun s => s.setHead c true) (hs.carouselOk hc) hc)
    ((State.Rested.fresh hs.rested.halting).setHead c true).mergeTest)

theorem exec_mergePointClearRise {heads : List Bool} (hs : s.Lawful) (hlen : heads.length = 12) :
    exec (.mergePointClearRise heads) s = .next (s.fresh.mergeRise heads) :=
  congrArg Host.Outcome.next (State.run_eq_of_rested (if_pos (levelsOk_of_length hlen))
    ((((State.Rested.fresh hs.rested.halting).setMergeClear true).setHeads heads).modBlc _ rfl rfl).mergeTest)

theorem exec_mergePointClearFall (hs : s.Lawful) : exec .mergePointClearFall s = .next s.fresh.mergeFall :=
  congrArg Host.Outcome.next (State.run_eq_of_rested rfl
    (((State.Rested.fresh hs.rested.halting).setMergeClear false).modBlc _ rfl rfl))

theorem exec_mergeGuardExpiry {u : State} {heads : List Bool} (hlen : heads.length = 12)
    (he : (s.fresh.setHeads heads).guardExpired = u) (hu : u.Rested) : exec (.mergeGuardExpiry heads) s = .next u :=
  congrArg Host.Outcome.next (State.run_eq_of_rested ((if_pos (levelsOk_of_length hlen)).trans he) hu)

end Merging

/-! ### Strays (R126) -/

section Sorter

variable {s : State} {read : Option Label}

/-- While the belt is STOPPED a scan is discarded (R128). -/
theorem State.sorterScan_stopped (h : s.blc.running = false) : s.sorterScan read = s := by
  unfold State.sorterScan
  rw [if_neg (by simp [h])]

theorem sorterMatch_eq_none_iff (l : Label) (t : List TrackRec) :
    sorterMatch l t = none ↔ ∀ r ∈ t.take 4, r.spur.label ≠ l := by
  simp only [sorterMatch, Config.sorterWindow, List.findIdx?_eq_none_iff, beq_eq_false_iff_ne]

/-- A scan that matches none of the first four records is a stray. -/
theorem State.sorterScan_stray (hrun : s.blc.running = true)
    (h : ∀ l, read = some l → ∀ r ∈ s.blc.tracking.take 4, r.spur.label ≠ l) : s.sorterScan read = s.stray read := by
  have hnone : (read.bind fun l => sorterMatch l s.blc.tracking) = none :=
    Option.bind_eq_none_iff.mpr fun l hl => (sorterMatch_eq_none_iff l _).mpr (h l hl)
  unfold State.sorterScan
  rw [if_pos hrun, hnone]

/-- The details of the notice of a stray (R183), as `State.stray` captures them. -/
def strayDetails (b : Blc) (read : Option Label) : List Byte :=
  readBytes read ++ [byte (b.chute + 1), byte255 b.tracking.length]

/-- A stray before the 24th is counted. -/
theorem State.stray_counts (h : s.blc.chute + 1 < 24) :
    s.stray read = ((s.emit (.divert 0)).modBlc fun b => { b with chute := b.chute + 1 }).capture 12 kindStray
      (strayDetails s.blc read) := by
  unfold State.stray
  exact if_pos h

/-- The 24th fills the chute and stops the belt. -/
theorem State.stray_fills (h : s.blc.chute + 1 = 24) :
    s.stray read = ((s.emit (.divert 0)).capture 12 kindChuteFull (strayDetails s.blc read)).modBlc fun b =>
      { b with chute := 24, chuteCause := true } := by
  have hfull : ¬ s.blc.chute + 1 < Config.chuteFull := by simp [Config.chuteFull, h]
  unfold State.stray
  refine (if_neg hfull).trans ((State.beltCauses_eq _ _ (.inl (by simp [Blc.running]))).trans ?_)
  simp only [← h]
  rfl

end Sorter

/-! ### The emergency stop (R129, R158) -/

/-- Make one change at the first `n` carousels. -/
def State.mapFirst (s : State) (f : Car → Car) (n : Nat) : State :=
  { s with cars := (s.cars.take n).map f ++ s.cars.drop n }

theorem State.mapFirst_length (s : State) (f : Car → Car) : s.mapFirst f s.cars.length = s.mapCars f := by
  simp [State.mapFirst, State.mapCars]

theorem State.mapFirst_cars_length (s : State) (f : Car → Car) (n : Nat) :
    (s.mapFirst f n).cars.length = s.cars.length := by
  have hsplit : min n s.cars.length + (s.cars.length - n) = s.cars.length := by omega
  simpa [State.mapFirst] using hsplit

/-- The next carousel's record stands as it was. -/
theorem State.car_mapFirst {s : State} (f : Car → Car) {n : Nat} (hn : n < s.cars.length) :
    (s.mapFirst f n).car (n + 1) = s.car (n + 1) := by
  simp [State.mapFirst, State.car, List.getElem?_append, Nat.le_of_lt hn]

theorem State.modCar_mapFirst {s : State} (f : Car → Car) {n : Nat} (hn : n < s.cars.length) :
    (s.mapFirst f n).modCar (n + 1) f = s.mapFirst f (n + 1) := by
  have hset : ((s.cars.take n).map f ++ s.cars.drop n).set n (f (s.car (n + 1))) =
      (s.cars.take (n + 1)).map f ++ s.cars.drop (n + 1) := by
    have hlen : ((s.cars.take n).map f).length = n := by
      rw [List.length_map, List.length_take, Nat.min_eq_left (Nat.le_of_lt hn)]
    have hcar : s.car (n + 1) = s.cars[n] := by simp [State.car, hn]
    rw [List.set_append_right _ _ (Nat.le_of_eq hlen), hlen, Nat.sub_self, List.drop_eq_getElem_cons hn,
      List.set_cons_zero, List.take_succ_eq_append_getElem hn, hcar, List.map_append, List.append_assoc]
    rfl
  unfold State.modCar State.setCar
  rw [State.car_mapFirst f hn]
  exact congrArg (fun l => { s with cars := l }) hset

/-- An event at each carousel in turn that makes one change there. -/
theorem State.foldl_carousels {g : State → Nat → State} {f : Car → Car} {s : State}
    (hg : ∀ t c, t.cars.length = s.cars.length → c - 1 < s.cars.length → t.car c = s.car c → g t c = t.modCar c f)
    (n : Nat) (hn : n ≤ s.cars.length) : (List.range' 1 n).foldl g s = s.mapFirst f n := by
  induction n with
  | zero => rfl
  | succ n ih =>
    rw [List.range'_1_concat, List.foldl_append, ih (Nat.le_of_succ_le hn), List.foldl_cons, List.foldl_nil,
      Nat.add_comm 1 n, hg _ (n + 1) (s.mapFirst_cars_length f n) hn (State.car_mapFirst f hn),
      State.modCar_mapFirst f hn]

theorem State.foldl_allCarousels {g : State → Nat → State} {f : Car → Car} {s : State} (hlen : s.cars.length = 12)
    (hg : ∀ t c, t.cars.length = s.cars.length → c - 1 < s.cars.length → t.car c = s.car c → g t c = t.modCar c f) :
    allCarousels.foldl g s = s.mapCars f := by
  rw [← State.mapFirst_length, hlen]
  exact State.foldl_carousels hg 12 (Nat.le_of_eq hlen.symm)

/-! #### What ESTOP does to one carousel's record -/

section AddEstop

variable (x : Car)

theorem Car.lockWork_fields (gate : Bool) :
    (x.lockWork gate).current = x.current ∧ (x.lockWork gate).gateCause = x.gateCause ∧
      (x.lockWork gate).estopCause = x.estopCause ∧ (x.lockWork gate).watchdog = x.watchdog := by
  unfold Car.lockWork Car.lockMove
  split
  · split
    · split <;> exact ⟨rfl, rfl, rfl, rfl⟩
    · exact ⟨rfl, rfl, rfl, rfl⟩
  · exact ⟨rfl, rfl, rfl, rfl⟩

/-- For ESTOP a visit's work stops at once: the drive is off and the command outstanding is withdrawn (R159). -/
theorem Car.lockWork_estop {x : Car} (h : x.current ≠ none) :
    (x.lockWork false).drive = none ∧ (x.lockWork false).port.cmd = none := by
  obtain ⟨v, hv⟩ := Option.ne_none_iff_exists'.mp h
  have hport : ∀ p : Port, p.lockPort.cmd = none := by
    intro p
    unfold Port.lockPort
    cases p.cmd <;> rfl
  unfold Car.lockWork
  rw [hv]
  refine ⟨?_, hport _⟩
  unfold Car.lockMove
  cases x.drive <;> rfl

theorem Car.lock_fields (gate : Bool) :
    (x.lock gate).current = x.current ∧ (x.lock gate).gateCause = x.gateCause ∧
      (x.lock gate).estopCause = x.estopCause := by
  obtain ⟨hcur, hgate, hestop, -⟩ := x.lockWork_fields gate
  unfold Car.lock
  cases x.state with
  | idle | parked | visiting => exact ⟨hcur, hgate, hestop⟩
  | homing | recovering => exact ⟨rfl, rfl, rfl⟩
  | offline | locked | sidelined | maintenance =>
    dsimp only
    split
    · exact ⟨hcur, hgate, hestop⟩
    · exact ⟨rfl, rfl, rfl⟩

/-- In service a carousel is LOCKED and keeps the state it was in (R158). -/
theorem Car.lock_inService {x : Car} (gate : Bool) (h : x.state = .idle ∨ x.state = .parked ∨ x.state = .visiting) :
    x.lock gate = { x.lockWork gate with state := .locked, interrupted := some x.state } := by
  unfold Car.lock
  rcases h with h | h | h <;> rw [h]

theorem Car.lock_pass {x : Car} (gate : Bool) (h : x.state = .homing ∨ x.state = .recovering) :
    x.lock gate = x.abandonPass := by
  unfold Car.lock
  rcases h with h | h <;> rw [h]

/-- Out of service only the tidy visit of a RESTORE has work to stop. -/
theorem Car.lock_outOfService {x : Car} (gate : Bool)
    (h : x.state = .offline ∨ x.state = .sidelined ∨ x.state = .maintenance) (htidy : x.stage ≠ some .tidy) :
    x.lock gate = x := by
  unfold Car.lock
  rcases h with h | h | h <;> rw [h] <;> exact if_neg (by simpa using htidy)

theorem Car.addEstop_unlocked {x : Car} (h : x.lockCause = false) :
    x.addEstop = ({ x with estopCause := true } : Car).lock false := by
  unfold Car.addEstop
  rw [if_neg (by simp [h])]

theorem Car.addEstop_locked_state {x : Car} (h : x.lockCause = true) : x.addEstop.state = x.state := by
  unfold Car.addEstop
  rw [if_pos h]
  split <;> rfl

theorem Car.addEstop_fields :
    x.addEstop.current = x.current ∧ x.addEstop.gateCause = x.gateCause ∧ x.addEstop.estopCause = true := by
  cases hl : x.lockCause with
  | false =>
    rw [Car.addEstop_unlocked hl]
    exact Car.lock_fields _ false
  | true =>
    unfold Car.addEstop
    rw [if_pos hl]
    split <;> exact ⟨rfl, rfl, rfl⟩

/-- What an assertion of the emergency stop does to one carousel, by its state (R158, R159). -/
theorem Car.addEstop_effect {x y : Car} (hy : y = x.addEstop) :
    y.estopCause = true ∧ y.gateCause = x.gateCause ∧
    (x.lockCause = true → y.state = x.state) ∧
    (x.lockCause = false →
      ((x.state = .idle ∨ x.state = .parked ∨ x.state = .visiting) →
        y.state = .locked ∧ y.interrupted = some x.state ∧
        (x.current ≠ none → y.drive = none ∧ y.port.cmd = none) ∧
        y.watchdog = x.watchdog) ∧
      ((x.state = .homing ∨ x.state = .recovering) →
        y.state = x.state ∧ y.drive = none ∧ y.watchdog = none) ∧
      ((x.state = .offline ∨ x.state = .sidelined ∨ x.state = .maintenance) →
        x.stage ≠ some .tidy → y = { x with estopCause := true })) := by
  subst hy
  obtain ⟨-, hgate, hestop⟩ := x.addEstop_fields
  refine ⟨hestop, hgate, Car.addEstop_locked_state, fun hl => ?_⟩
  rw [Car.addEstop_unlocked hl]
  refine ⟨fun hin => ?_, fun hpass => ?_, fun hout htidy => ?_⟩
  · obtain ⟨-, -, -, hwatch⟩ := ({ x with estopCause := true } : Car).lockWork_fields false
    rw [Car.lock_inService (x := { x with estopCause := true }) false hin]
    exact ⟨rfl, rfl, Car.lockWork_estop (x := { x with estopCause := true }), hwatch⟩
  · rw [Car.lock_pass (x := { x with estopCause := true }) false hpass]
    exact ⟨rfl, rfl, rfl⟩
  · exact Car.lock_outOfService false hout htidy

end AddEstop

/-! #### The two events of the emergency stop -/

section Estop

variable {s : State}

theorem State.assertEstop_eq (hlen : s.cars.length = 12) :
    s.assertEstop =
      (((s.setEstop true).estopEvent).mapCars Car.addEstop).modBlc fun b => { b with estopCause := true } := by
  unfold State.assertEstop State.beltEstop
  rw [State.beltCauses_eq _ _ (.inl (by simp [Blc.running])),
    State.foldl_allCarousels (s := (s.setEstop true).estopEvent) hlen fun _ _ _ _ _ => rfl]

/-- A carousel that the removal of ESTOP does not let go: its gate is open, or it is out of service with no RESTORE
under way (R158). -/
def Car.StaysAtRelease (x : Car) : Prop :=
  x.gateCause = true ∨ ((x.state = .offline ∨ x.state = .sidelined ∨ x.state = .maintenance) ∧ x.stage = none)

theorem State.removeEstop_eq {c : Nat} (hc : c - 1 < s.cars.length) (h : (s.car c).StaysAtRelease) :
    (s.removeCause c fun x => { x with estopCause := false }) = s.modCar c fun x => { x with estopCause := false } := by
  unfold State.removeCause
  dsimp only
  rw [State.car_modCar_self s c _ hc]
  rcases h with hgate | ⟨hstate, hstage⟩
  · exact if_neg (by simp [Car.lockCause, hgate])
  · split
    · unfold State.released
      rw [State.car_modCar_self s c _ hc]
      rcases hstate with h | h | h <;> simp [h, hstage]
    · rfl

/-- Where no spur requests, the belt's beginning to run merges nothing. -/
theorem State.beltCauses_idle (s : State) (f : Blc → Blc) (h : (s.modBlc f).requesters = []) :
    s.beltCauses f = s.modBlc f := by
  have hwindow : (s.modBlc f).mergeWindow = false := by simp [State.mergeWindow, h]
  unfold State.beltCauses
  simp only [State.mergeTest_eq _ hwindow, ite_self]

theorem State.car_mem {s : State} {c : Nat} (hc : c - 1 < s.cars.length) : s.car c ∈ s.cars := by
  rw [State.car_eq, List.getD_eq_getElem?_getD, List.getElem?_eq_getElem hc, Option.getD_some]
  exact List.getElem_mem hc

/-- The load-present levels leave the spur-head levels, and with them the requesters. -/
theorem State.setLoads_requesters (loads : List Bool) (h : loads.length = s.lines.cars.length) :
    (s.setLoads loads).requesters = s.requesters := by
  have hhead : ∀ c, ((s.setLoads loads).carLines c).spurHead = (s.carLines c).spurHead := by
    intro c
    by_cases hc : c - 1 < s.lines.cars.length
    · simp [State.setLoads, State.carLines, hc, h]
    · simp [State.setLoads, State.carLines, h, hc]
  unfold State.requesters State.requester
  simp only [hhead]
  rfl

/-- A release that lets no carousel go and finds no requesting spur. -/
theorem State.releaseEstop_eq {loads : List Bool} (hcars : s.cars.length = 12)
    (hloads : loads.length = s.lines.cars.length) (hreq : s.requesters = []) (h : ∀ x ∈ s.cars, x.StaysAtRelease) :
    s.releaseEstop loads = ((((s.setEstop false).setLoads loads).estopEvent).mapCars fun x =>
      { x with estopCause := false }).modBlc fun b => { b with estopCause := false } := by
  have hfold := State.foldl_allCarousels (s := ((s.setEstop false).setLoads loads).estopEvent) hcars
    fun t c hlen hc (hcar : t.car c = s.car c) => State.removeEstop_eq (s := t) (hlen.symm ▸ hc)
      (hcar ▸ h (s.car c) (State.car_mem hc))
  unfold State.releaseEstop State.beltEstop
  rw [hfold]
  exact State.beltCauses_idle _ _ ((State.setLoads_requesters (s := s.setEstop false) loads hloads).trans hreq)

theorem exec_estopAssert (hs : s.Lawful) :
    exec .estopAssert s = .next ((((s.fresh.setEstop true).estopEvent).mapCars Car.addEstop).modBlc fun b =>
      { b with estopCause := true }) :=
  congrArg Host.Outcome.next (State.run_eq_of_rested (State.assertEstop_eq (s := s.fresh) hs.shaped.cars)
    (((((State.Rested.fresh hs.rested.halting).setEstop true).estopEvent).mapCars _ fun x => x.addEstop_fields.1).modBlc
      _ rfl rfl))

theorem exec_estopRelease {loads : List Bool} (hs : s.Lawful) (hloads : loads.length = 12)
    (hreq : s.fresh.requesters = []) (h : ∀ x ∈ s.cars, x.StaysAtRelease) :
    exec (.estopRelease loads) s = .next (((((s.fresh.setEstop false).setLoads loads).estopEvent).mapCars fun x =>
      { x with estopCause := false }).modBlc fun b => { b with estopCause := false }) := by
  have hlines : loads.length = s.fresh.lines.cars.length := by
    rw [hloads, State.fresh_lines, State.linesNow_cars_length, hs.shaped.lines]
    rfl
  have hrelease := State.releaseEstop_eq (s := s.fresh) hs.shaped.cars hlines hreq h
  exact congrArg Host.Outcome.next (State.run_eq_of_rested ((if_pos (levelsOk_of_length hloads)).trans hrelease)
    ((((((State.Rested.fresh hs.rested.halting).setEstop false).setLoads loads).estopEvent).mapCars
      (fun x => { x with estopCause := false }) fun _ => rfl).modBlc _ rfl rfl))

end Estop

end Sys2Proof.Machine

open Sys2Proof Sys2Proof.Machine

/-! ### The obligations of the belt -/

/-- Settles O53: the winner is a least of the requesters by `mergeKeys`, and the rest of the merge is the spur-room
event at its carousel. -/
theorem mergeTakesRankedSpur : Obligations.MergeTakesRankedSpur := by
  unfold Obligations.MergeTakesRankedSpur
  intro s hs
  rw [← s.mergeWindow_iff]
  refine ⟨fun hclosed => s.mergeTest_eq (eq_false_of_ne_true hclosed), fun hopen => ?_⟩
  obtain ⟨c, r, rest, hmem, hspur, hleast, htest⟩ := State.mergeTest_window hopen
  have hc : c - 1 < (s.taken c r rest).cars.length := hs.car_lt (State.mem_requesters hmem).1
  refine ⟨c, r, rest, hmem, hspur, fun d q l hd hq hne => ?_, fun hphase => ?_, fun seen hphase hlock => ?_,
    fun seen hphase hlock => ?_⟩
  · intro left
    have hleft : ∀ i, left i = (s.order i).elim 0 (·.outstanding) := by
      intro i
      cases hi : s.order i <;> simp only [left, hi] <;> rfl
    simp only [hleft]
    exact (State.mergeKeys_le_iff hspur hq hne).mp (hleast d hd)
  · exact htest.trans (State.spurRoom_other (s := s.taken c r rest) hphase)
  · refine htest.trans ((State.spurRoom_issues (s := s.taken c r rest) hc hphase hlock).trans ?_)
    simp [State.emit, State.modPort, State.modCar, State.setCar, State.taken, State.modBlc, Blc.setSpur, State.car]
  · exact htest.trans (State.spurRoom_locked (s := s.taken c r rest) hphase hlock)

/-- Settles O54: each event sets its lines and the guard, and what is left of it is the test of the merge window. -/
theorem mergeEventsTestWindow : Obligations.MergeEventsTestWindow := by
  unfold Obligations.MergeEventsTestWindow
  intro s heads hs hlen withHeads
  have hrest : (s.fresh.setHeads heads).Rested := (State.Rested.fresh hs.rested.halting).setHeads heads
  refine ⟨fun c hc => exec_spurHeadRise hs hc, exec_mergePointClearRise hs hlen, exec_mergePointClearFall hs,
    fun hrun hg hstay => ?_, fun hrun hg hstay => ?_, fun hidle => ?_⟩
  · have hstep := exec_mergeGuardExpiry hlen (State.guardExpired_stayed (s := s.fresh.setHeads heads) hrun hg hstay)
      (hrest.modBlc _ rfl rfl).mergeTest
    exact hstep
  · have hstep := exec_mergeGuardExpiry hlen (State.guardExpired_fallen (s := s.fresh.setHeads heads) hrun hg hstay)
      (hrest.modBlc _ rfl rfl)
    exact hstep
  · exact exec_mergeGuardExpiry hlen (State.guardExpired_idle (s := s.fresh.setHeads heads) hidle) hrest

/-- Settles O56: both scans are `State.sorterScan` of what was read, which a STOPPED belt discards and which is a stray
otherwise. -/
theorem sorterStraysFillChute : Obligations.SorterStraysFillChute := by
  unfold Obligations.SorterStraysFillChute
  intro s read hs hlabel i details
  have hrest : s.fresh.Rested := .fresh hs.rested.halting
  have hexec : ∀ {u}, s.fresh.sorterScan read = u → u.Rested → exec i s = .next u := by
    intro u he hu
    cases read with
    | none => exact congrArg Host.Outcome.next (State.run_eq_of_rested he hu)
    | some l => exact congrArg Host.Outcome.next (State.run_eq_of_rested ((if_pos (hlabel l rfl)).trans he) hu)
  have hdetails : details = strayDetails s.blc read := by cases read <;> rfl
  refine ⟨fun hstop => hexec (State.sorterScan_stopped hstop) hrest, fun hrun hnone => ?_⟩
  have hstray := State.sorterScan_stray (s := s.fresh) hrun hnone
  rw [hdetails]
  refine ⟨fun hlt => ?_, fun hfull => ?_⟩
  · have hstep := hexec (hstray.trans (State.stray_counts (s := s.fresh) hlt))
      (((hrest.emit _).modBlc _ rfl rfl).capture ..)
    exact hstep
  · have hstep := hexec (hstray.trans (State.stray_fills (s := s.fresh) hfull))
      (((hrest.emit _).capture ..).modBlc _ rfl rfl)
    exact hstep

/-- Settles O37: the assertion is `Car.addEstop` at every carousel; the release changes the cause alone where none of
them is let go. -/
theorem estopLocksAndReleases : Obligations.EstopLocksAndReleases := by
  unfold Obligations.EstopLocksAndReleases
  refine ⟨fun s hs => ?_, fun s loads hs hloads hreq hidle => exec_estopRelease hs hloads hreq hidle⟩
  have hcars : s.cars.length = 12 := hs.shaped.cars
  refine ⟨_, exec_estopAssert hs, rfl, by simp [Blc.running], (List.length_map _).trans hcars, fun c h1 h12 => ?_⟩
  have hcar := State.car_mapCars (s.fresh.setEstop true).estopEvent Car.addEstop
    (show c - 1 < s.cars.length by omega)
  exact Car.addEstop_effect hcar
end
